-- ==== Sys2Proof/Word.lean ====
section
/-! DEFINITION. The plain value types of the LT-32: a byte of the commissioning bus, a channel number, a line level and a
probe voltage. -/
namespace Sys2Proof

/-- One byte of a commissioning-bus frame (R166). -/
abbrev Byte := BitVec 8

/-- A channel number, 0..31 (00_scope, Terms: channel). -/
abbrev Chan := Fin 32

/-- A sensed pair voltage in microvolts (the thresholds of R68 and R70 are whole numbers of microvolts). -/
abbrev MicroVolts := Int

/-- The level of an open-drain line of the commissioning bus (R35). -/
inductive Level where
  | low
  | high
  deriving DecidableEq, Repr

end Sys2Proof
end

