-- ==== Sys2Proof/Syntax.lean ====
section
/-! DEFINITION. The commands of the LT-32: one constructor of Instr for each row of spec/opcode_table.json, with the operands
that the outside gives with it. -/
namespace Sys2Proof

/-- The five strap groups as sampled at reset end (R1). A pin at 1 is true. -/
structure Straps where
  slot : BitVec 4
  slots : BitVec 4
  topo : Bool
  width : BitVec 2
  policy : Bool
  deriving DecidableEq, Repr

/-- The payload of a PRESENT frame, byte for byte (R176). -/
structure PresentFields where
  tag : Byte
  slotsMinusOne : Byte
  topology : Byte
  width : Byte
  policy : Byte
  deriving DecidableEq, Repr

/-- The payload of a BEGIN frame: one byte or two for each field, as sent (R176). -/
structure BeginFields where
  tag : Byte
  tSoak : Byte
  tStress : Byte
  p : Byte
  swing : Byte
  wMin : Byte
  hMin : Byte
  budget : Byte
  retrainMs : Byte
  musterMs : BitVec 16
  identifyMs : BitVec 16
  soakMs : BitVec 16
  stressMs : BitVec 16
  reportMs : BitVec 16
  barrierMs : BitVec 16
  deriving DecidableEq, Repr

/-- The payload of a RECALL frame (R176); bit c of channels puts channel c in the set. -/
structure RecallFields where
  target : Byte
  mask : Byte
  channels : BitVec 32
  count : Byte
  summary : Byte
  deriving DecidableEq, Repr

/-- Why the receiver drops a frame (R167). -/
inductive DropCause where
  | glitch
  | framing
  | gap
  | check
  deriving DecidableEq, Repr

/-- One constructor per row of spec/opcode_table.json, in the table's order. -/
inductive Instr where
  /-- RESET_BEGIN (R13). -/
  | resetBegin
  /-- RESET_END (R14): the strap levels at that moment. -/
  | resetEnd (straps : Straps)
  /-- BEGIN (R17): an accepted BEGIN frame. -/
  | beginFrame (src : Byte) (fields : BeginFields)
  /-- CEASE (R33): an accepted CEASE frame. -/
  | ceaseFrame (src : Byte) (tag : Byte)
  /-- PRESENT (R55): an accepted PRESENT frame. -/
  | presentFrame (src : Byte) (fields : PresentFields)
  /-- RECALL (R162): an accepted RECALL frame. -/
  | recallFrame (src : Byte) (fields : RecallFields)
  /-- LANEREP_RECEIVED (R170): an accepted LANEREP of another station. -/
  | lanerepReceived (src : Byte) (payload : List Byte)
  /-- SLOTREP_RECEIVED (R170): an accepted SLOTREP of another station. -/
  | slotrepReceived (src : Byte) (payload : List Byte)
  /-- BUS_IDLE (R167). -/
  | busIdle
  /-- FRAME_DROP (R167). -/
  | frameDrop (cause : DropCause)
  /-- FRAME_START (R171). -/
  | frameStart
  /-- FRAME_COMPLETE (R171). -/
  | frameComplete
  /-- CONTENTION_LOSS (R172): the bit time of the frame, from 0, at whose middle the loss is read back. -/
  | contentionLoss (bit : Nat)
  /-- CB_STOP_EDGE (R36): the level the line now shows. -/
  | cbStopEdge (level : Level)
  /-- STOP_QUALIFIED_LOW (R36). -/
  | stopQualifiedLow
  /-- STOP_QUALIFIED_HIGH (R36). -/
  | stopQualifiedHigh
  /-- CB_STEP_EDGE (R38): the level the line now shows. -/
  | cbStepEdge (level : Level)
  /-- BARRIER_TAKEN (R39). -/
  | barrierTaken
  /-- HOLD_OFF_EXPIRY (R40). -/
  | holdOffExpiry
  /-- BARRIER_LIMIT_EXPIRY (R42). -/
  | barrierLimitExpiry
  /-- IDLE_SECOND (R49). -/
  | idleSecond
  /-- STAGE_LIMIT_EXPIRY (R21). -/
  | stageLimitExpiry
  /-- MUSTER_DOUBLE_LIMIT (R22). -/
  | musterDoubleLimit
  /-- PROBE_CURRENT_ON (R66). -/
  | probeCurrentOn
  /-- PROBE_CURRENT_OFF (R66). -/
  | probeCurrentOff
  /-- ROUND_END (R72). -/
  | roundEnd
  /-- TOKEN_PERIOD_START (R82) of one transmitter. -/
  | tokenPeriodStart (c : Chan)
  /-- CLOCK_ACQUIRED (R89) at one receiver. -/
  | clockAcquired (c : Chan)
  /-- ACQUISITION_TIMEOUT (R89) at one receiver. -/
  | acquisitionTimeout (c : Chan)
  /-- SEARCH_SUCCESS (R90) at one receiver: the two 32-bit finds one period apart (bit 31 first on the lane), the 31 pattern
  bits after the second token block and the 1,024 after those, all as received, first received bit in the top place. -/
  | searchSuccess (c : Chan) (find1 find2 : BitVec 32) (seed : BitVec 31) (next : BitVec 1024)
  /-- SEARCH_TIMEOUT (R90) at one receiver. -/
  | searchTimeout (c : Chan)
  /-- TOKEN_BLOCK_END (R86) at one receiver: the 64 bits received at the expected position. Bit 31 of marker is first on the
  lane (R81); bit i of codeword is codeword position i (R175). -/
  | tokenBlockEnd (c : Chan) (marker codeword : BitVec 32)
  /-- CLOCK_LOSS (R94) at one receiver. -/
  | clockLoss (c : Chan)
  /-- RETRAIN_TIMER_EXPIRY (R97) at one receiver. -/
  | retrainTimerExpiry (c : Chan)
  /-- SETTLE_DELAY_EXPIRY (R119). -/
  | settleDelayExpiry
  /-- COMPARED_BIT (R121, R122): one pattern bit of a lane, as the data sampler and as the eye monitor's sampler decide it,
  before the lock polarity is applied. -/
  | comparedBit (c : Chan) (received monitor : Bool)
  /-- POINT_END (R138): the point in flight, whose bit number has reached 2^P, is judged. disagreed: what the outside says of the
  point; the point is judged by the compared bits alone, and the operand is not read (notes/assumptions/5.md). -/
  | pointEnd (disagreed : Bool)
  /-- LAMP_BLINK_TOGGLE (R158). -/
  | lampBlinkToggle
  /-- START_BIT (R167). -/
  | startBit
  /-- PROBE_REFERENCE_READING (R66): the level of every own transmit pair. -/
  | probeReferenceReading (levels : Vector MicroVolts 32)
  /-- PROBE_SAMPLE (R66): the level of every own transmit pair. -/
  | probeSample (levels : Vector MicroVolts 32)
  deriving DecidableEq, Repr

end Sys2Proof
end

