-- ==== Sys2Proof/Decode.lean ====
section
/-! DEFINITION. The words of spec/opcode_table.json. The table gives no row any bits: the commands are events and accepted
frames, not coded words. (The byte layouts of the frames, R168 to R177, are in Machine/Frames.lean.) -/
namespace Sys2Proof

/-- The table's rows that give bits, as (number of bits, word, command): there is none. -/
def tableWords : List (Nat × Nat × Instr) := []

/-- The command that a word of nbits bits spells by the table's bits. -/
def decodeTableWord (nbits w : Nat) : Option Instr :=
  (tableWords.find? fun row => row.1 == nbits && row.2.1 == w).map fun row => row.2.2

end Sys2Proof
end

