-- ==== Sys2Proof/Config.lean ====
section
/-! DEFINITION. What an implementation or its surroundings fix. The spec leaves the part no free value: every operand a rule
leaves to the outside (a received bit, a voltage, a level) is an operand of the command that brings it. -/
namespace Sys2Proof.Config

/-- DESIGN CHOICE (unsafe; notes/assumptions/4.md): the level both stage lines show before the first edge command. The lines
have external pull-ups (00_scope) and belong to all stations, so any level is possible; an edge command may come in RESET. -/
def powerOnLine : Level := .high

end Sys2Proof.Config
end

