-- ==== Sys2Proof/Machine/State.lean ====
section
/-! DEFINITION. The state of one LT-32 as plain data, block by block (00_scope, Functional Blocks), and its value at reset. -/
namespace Sys2Proof.Machine

/-- The drive of one open-drain line (R35). -/
inductive Drive where
  | pulled
  | released
  deriving DecidableEq, Repr

/-- A timer: stopped, or running toward the stated length in microseconds. The time elapsed is not held
(notes/assumptions/1.md): each expiry is a command. -/
inductive Timer where
  | stopped
  | running (us : Nat)
  deriving DecidableEq, Repr

/-- The six stages of a sweep (00_scope; R20). -/
inductive Stage where
  | muster
  | static
  | identify
  | soak
  | stress
  | report
  deriving DecidableEq, Repr

/-- The station states of 2.1. The current stage is part of the state: MUSTER..REPORT are inStage, and HALTED keeps the stage
in which the halt was taken. -/
inductive StationState where
  | reset
  | listen
  | barred
  | inStage (st : Stage)
  | halted (st : Stage)
  | done
  deriving DecidableEq, Repr

/-! ### Strap and Wiring Unit -/

/-- TOPO (R1). -/
inductive Topology where
  | mesh
  | star
  deriving DecidableEq, Repr

/-- POLICY (R1): STOP_ALL or CONTINUE. -/
inductive StopPolicy where
  | stopAll
  | carryOn
  deriving DecidableEq, Repr

/-- The station identity formed at reset end (R1). The wiring tables are functions of it (Machine/Wiring.lean). -/
structure Identity where
  slot : Nat
  slots : Nat
  topology : Topology
  widthCode : Nat
  policy : StopPolicy
  deriving DecidableEq, Repr

/-- A lane source: a slot and a channel (R11, R102). -/
structure Source where
  slot : Nat
  channel : Nat
  deriving DecidableEq, Repr

/-! ### Sweep Controller -/

/-- The stored sweep parameters (R13, R19). Limits and the retrain period are in ms. -/
structure Params where
  tag : Byte
  tSoak : Nat
  tStress : Nat
  p : Nat
  swing : Nat
  wMin : Nat
  hMin : Nat
  budget : Nat
  retrainMs : Nat
  musterMs : Nat
  identifyMs : Nat
  soakMs : Nat
  stressMs : Nat
  reportMs : Nat
  barrierMs : Nat
  deriving DecidableEq, Repr

/-- R29, R30. -/
inductive HaltReason where
  | none
  | stopSeen
  | shortHigh
  | slotConflict
  | barrierStall
  | ceased
  deriving DecidableEq, Repr

/-- The four station flags (R30). -/
structure StationFlags where
  slotConflict : Bool
  stopSeen : Bool
  unannouncedPeer : Bool
  barrierStall : Bool
  deriving DecidableEq, Repr

/-- The two blink rates (R158). -/
inductive BlinkRate where
  | oneHz
  | twoHz
  deriving DecidableEq, Repr

/-- A lamp output: off, steady on, or blinking and now in its on half (lit) or its off half (R158). -/
inductive Lamp where
  | off
  | steady
  | blink (rate : BlinkRate) (lit : Bool)
  deriving DecidableEq, Repr

/-- The SWC (chapter 2; the settle delay timer of R118; the lamps of R158). limitExpired: the current stage's limit has
expired (R21, R97, R99). -/
structure Swc where
  station : StationState
  params : Params
  stageTimer : Timer
  limitExpired : Bool
  released : Bool
  haltReason : HaltReason
  flags : StationFlags
  foreignSweep : Bool
  settleDelay : Timer
  lampOk : Lamp
  lampFlt : Lamp
  deriving DecidableEq, Repr

/-! ### Line Interface -/

/-- The step phase (chapter 3). -/
inductive StepPhase where
  | off
  | holding
  | waiting
  | holdOff
  deriving DecidableEq, Repr

/-- The run of the level CB_STOP now shows: not timed (reset held), being timed, or already reported (R36: once per run). -/
inductive StopRun where
  | untimed
  | timing
  | reported
  deriving DecidableEq, Repr

/-- The idle-high timer (R49): stopped, running, or past its second in this high run. -/
inductive IdleHigh where
  | stopped
  | running
  | elapsed
  deriving DecidableEq, Repr

/-- The LIF (chapter 3), with the level each line shows at its input. -/
structure Lif where
  stepLine : Level
  stopLine : Level
  stepDrive : Drive
  stopDrive : Drive
  stopQualified : Option Level
  stopRun : StopRun
  phase : StepPhase
  barrierRun : Bool
  barrierLimit : Timer
  holdOff : Timer
  idleHigh : IdleHigh
  deriving DecidableEq, Repr

/-! ### Static Probe Unit -/

/-- One reading of each own transmit pair that the SPU senses; absent where the pair is not sensed (R66). -/
abbrev Readings := Vector (Option MicroVolts) 32

/-- The round in flight (R65, R66): its number, whether the probe current flows into own pair round, the reference reading
and the samples taken so far, oldest first. -/
structure ProbeRound where
  round : Chan
  currentOn : Bool
  reference : Option Readings
  samples : List Readings
  deriving DecidableEq, Repr

/-- The SPU's unit state (R65); the round number, the current and the readings exist only while PROBING. -/
inductive Spu where
  | idle
  | probing (r : ProbeRound)
  | finished
  deriving DecidableEq, Repr

/-- The static class of a pair (R68, R69). -/
inductive StaticClass where
  | terminated
  | openPair
  | shortLow
  | shortHigh
  | unstable
  deriving DecidableEq, Repr

/-- A bridge partner (R71): an own channel, or FOREIGN. -/
inductive BridgePartner where
  | own (c : Chan)
  | foreign
  deriving DecidableEq, Repr

/-- The static fields of the Channel Record (R65). -/
structure StaticFields where
  cls : Option StaticClass
  bridged : Bool
  partner : Option BridgePartner
  barred : Bool
  deriving DecidableEq, Repr

/-! ### Lane Channels -/

/-- A RUNNING transmitter (R79 to R84): swing in sixteenths of full swing, the pattern bits sent before the present token
period, and the codeword of the present period, absent until the first period starts. -/
structure TxRun where
  swing : Nat
  patternSent : Nat
  codeword : Option (BitVec 32)
  deriving DecidableEq, Repr

/-- The transmitter (R79). -/
inductive Tx where
  | off
  | running (t : TxRun)
  deriving DecidableEq, Repr

/-- The receiver states (R85). -/
inductive RxState where
  | off
  | acquiring
  | searching
  | spotWait
  | spotRun
  | locked
  | retrainWait
  | held
  | dead
  deriving DecidableEq, Repr

/-- The polarity of a lock (R90, R91). -/
inductive Polarity where
  | normal
  | inverted
  deriving DecidableEq, Repr

/-- The receive items (R85). reference: the last 31 predicted pattern bits, the newest in bit 0; absent while unseeded. -/
structure Rx where
  state : RxState
  polarity : Polarity
  invertedFlag : Bool
  retrainCount : Nat
  deadFlag : Bool
  missCount : Nat
  retrainTimer : Timer
  reference : Option (BitVec 31)
  deriving DecidableEq, Repr

/-- The identification states (R102). -/
inductive IdentState where
  | idle
  | opened
  | settled
  deriving DecidableEq, Repr

/-- The ten mapping classes (7.4). -/
inductive MappingClass where
  | match_
  | laneSwap
  | foreignPort
  | wrongPeer
  | loopback
  | unstable
  | undecoded
  | silent
  | noPeer
  | untested
  deriving DecidableEq, Repr

/-- The identification items (R102). -/
structure Ident where
  state : IdentState
  heard : Option Source
  matchCount : Nat
  undecodedRun : Nat
  cls : Option MappingClass
  duplicate : Bool
  sourceChanged : Bool
  deriving DecidableEq, Repr

/-- The count states (R118). -/
inductive CountState where
  | idle
  | waiting
  | counting
  | settled
  deriving DecidableEq, Repr

/-- The count outcomes (R118). -/
inductive CountOutcome where
  | met
  | failed
  | lost
  | undersampled
  | notRun
  | halted
  | untested
  deriving DecidableEq, Repr

/-- One stage count (R118). -/
structure StageCount where
  state : CountState
  n : Nat
  e : Nat
  outcome : Option CountOutcome
  deriving DecidableEq, Repr

/-- The kinds of first fault (R129, R130). -/
inductive FaultKind where
  | tokenUncorrectable
  | lockLost
  | bitError
  | foreignToken
  deriving DecidableEq, Repr

/-- The first-fault snapshot (R129). -/
structure Snapshot where
  stage : Stage
  kind : FaultKind
  n : Nat
  deriving DecidableEq, Repr

/-- The scan states (R136). -/
inductive ScanState where
  | idle
  | awaitLock
  | pending
  | granted
  | settled
  deriving DecidableEq, Repr

/-- The scan outcomes (R136). -/
inductive ScanOutcome where
  | complete
  | closed
  | aborted
  | cut
  | notRun
  | untested
  deriving DecidableEq, Repr

/-- W, H, O and C of a COMPLETE scan (R145). -/
structure ScanFigures where
  w : Nat
  h : Nat
  o : Int
  c : Int
  deriving DecidableEq, Repr

/-- The scan items (R136). The four figures are written together, so they are present together. -/
structure Scan where
  state : ScanState
  attempts : Nat
  outcome : Option ScanOutcome
  figures : Option ScanFigures
  deriving DecidableEq, Repr

/-- One lane channel: the Channel Record and the transmitter. An unused channel has no record (R9); its place here holds
Channel.initial. -/
structure Channel where
  static : StaticFields
  tx : Tx
  rx : Rx
  ident : Ident
  soak : StageCount
  stress : StageCount
  snapshot : Option Snapshot
  scan : Scan
  deriving DecidableEq, Repr

/-! ### Eye Monitor -/

/-- The monitor's comparator polarity (R137, R139). -/
inductive Chop where
  | normal
  | swapped
  deriving DecidableEq, Repr

/-- An eye-monitor point (R137). -/
structure EyePoint where
  phase : Int
  threshold : Int
  chop : Chop
  deriving DecidableEq, Repr

/-- The seven steps of a SCAN (R144). -/
inductive ScanStep where
  | origin
  | right
  | left
  | upA
  | downA
  | upB
  | downB
  deriving DecidableEq, Repr

/-- The readings of a SCAN, as far as reached (R134, R144). -/
structure ScanReadings where
  r : Option Nat
  l : Option Nat
  upA : Option Nat
  downA : Option Nat
  upB : Option Nat
  downB : Option Nat
  deriving DecidableEq, Repr

/-- What a grant measures: a SPOT, with the result of its first point once that point has ended, or a SCAN with its step and
partial readings. -/
inductive Procedure where
  | spot (firstOpen : Option Bool)
  | scan (step : ScanStep) (readings : ScanReadings)
  deriving DecidableEq, Repr

/-- A standing grant with the measurement in flight (R134). -/
structure Grant where
  channel : Chan
  procedure : Procedure
  point : EyePoint
  bits : Nat
  disagreed : Bool
  deriving DecidableEq, Repr

/-- The EMN (R134). spotPending is a set of channels, held in ascending order; scanQueue is oldest first. FREE is grant = none. -/
structure Emn where
  grant : Option Grant
  spotPending : List Chan
  scanQueue : List Chan
  skip : Nat
  deriving DecidableEq, Repr

/-! ### Peer List -/

/-- A peer entry (R52). -/
structure PeerEntry where
  slot : Nat
  announced : Bool
  mismatch : Bool
  expected : Nat
  heard : Nat
  matched : Nat
  deriving DecidableEq, Repr

/-! ### Commissioning Bus Frame Engine -/

/-- The frame receiver (R167). -/
inductive BusReceiver where
  | waitIdle
  | idle
  | frame
  deriving DecidableEq, Repr

/-- An entry of the Outbound Queue (R159). -/
inductive Entry where
  | present
  | lanerep (c : Chan)
  | slotrep
  deriving DecidableEq, Repr

/-- The own frame on the line (R171): its entry, its bytes as built at its start, and whether its entry is removed even if the
frame is lost (R22, R27, R32). -/
structure LineFrame where
  entry : Entry
  bytes : List Byte
  dropOnLoss : Bool
  deriving DecidableEq, Repr

/-- The CFE (R159, R167, R171). -/
structure Cfe where
  receiver : BusReceiver
  queue : List Entry
  onLine : Option LineFrame
  deriving DecidableEq, Repr

/-! ### The station -/

/-- The state of the part, and the queue of commands that wait, first in, first out. -/
structure State where
  identity : Option Identity
  swc : Swc
  lif : Lif
  spu : Spu
  channels : Vector Channel 32
  emn : Emn
  peers : List PeerEntry
  cfe : Cfe
  pending : List Instr
  deriving DecidableEq, Repr

/-- No command of the LT-32 stops the part: the spec gives every command an effect in every state. -/
inductive Fault where
  deriving DecidableEq, Repr

/-- Why a command has no meaning here. -/
inductive Refusal where
  /-- Raised by exec alone, for a command whose meaning is not written yet (safe): at present for none. -/
  | notModelled (mnemonic : String)
  deriving DecidableEq, Repr

/-! ### Reset values -/

/-- R13. -/
def Params.initial : Params :=
  { tag := 0, tSoak := 20, tStress := 20, p := 16, swing := 4, wMin := 0, hMin := 0, budget := 1, retrainMs := 1,
    musterMs := 1, identifyMs := 1, soakMs := 1, stressMs := 1, reportMs := 1, barrierMs := 1 }

/-- R13. -/
def StationFlags.clear : StationFlags :=
  { slotConflict := false, stopSeen := false, unannouncedPeer := false, barrierStall := false }

/-- R13, R118. -/
def Swc.initial : Swc :=
  { station := .reset, params := Params.initial, stageTimer := .stopped, limitExpired := false, released := false,
    haltReason := .none, flags := StationFlags.clear, foreignSweep := false, settleDelay := .stopped, lampOk := .off,
    lampFlt := .off }

/-- The table at the head of chapter 3, with the levels the two lines show. -/
def Lif.initial (stepLine stopLine : Level) : Lif :=
  { stepLine := stepLine, stopLine := stopLine, stepDrive := .released, stopDrive := .released, stopQualified := none,
    stopRun := .untimed, phase := .off, barrierRun := false, barrierLimit := .stopped, holdOff := .stopped,
    idleHigh := .stopped }

/-- R65. -/
def StaticFields.initial : StaticFields := { cls := none, bridged := false, partner := none, barred := false }

/-- R85. -/
def Rx.initial : Rx :=
  { state := .off, polarity := .normal, invertedFlag := false, retrainCount := 0, deadFlag := false, missCount := 0,
    retrainTimer := .stopped, reference := none }

/-- R102. -/
def Ident.initial : Ident :=
  { state := .idle, heard := none, matchCount := 0, undecodedRun := 0, cls := none, duplicate := false,
    sourceChanged := false }

/-- R118. -/
def StageCount.initial : StageCount := { state := .idle, n := 0, e := 0, outcome := none }

/-- R136. -/
def Scan.initial : Scan := { state := .idle, attempts := 0, outcome := none, figures := none }

/-- The record's values at reset and at acceptance of BEGIN (R65, R79, R85, R102, R118, R129, R136). -/
def Channel.initial : Channel :=
  { static := StaticFields.initial, tx := .off, rx := Rx.initial, ident := Ident.initial, soak := StageCount.initial,
    stress := StageCount.initial, snapshot := none, scan := Scan.initial }

/-- R134. -/
def Emn.initial : Emn := { grant := none, spotPending := [], scanQueue := [], skip := 0 }

/-- R159, R167. -/
def Cfe.initial : Cfe := { receiver := .waitIdle, queue := [], onLine := none }

/-- The part while reset is held, with the levels the lines show and no command waiting. -/
def State.inReset (stepLine stopLine : Level) : State :=
  { identity := none, swc := Swc.initial, lif := Lif.initial stepLine stopLine, spu := .idle,
    channels := Vector.replicate 32 Channel.initial, emn := Emn.initial, peers := [], cfe := Cfe.initial, pending := [] }

/-- The machine right after reset: in RESET, every item at its reset value (R13 and the tables of the chapters). -/
def State.reset : State := State.inReset Config.powerOnLine Config.powerOnLine

end Sys2Proof.Machine
end

