-- ==== Sys2Proof/Machine/Constants.lean ====
section
/-! DEFINITION. The fixed numbers of the spec: codes, times, thresholds and tables. -/
namespace Sys2Proof.Machine

/-- The stage codes 1..6 (00_scope, The Sweep in Outline). -/
def Stage.code : Stage → Nat
  | .muster => 1
  | .static => 2
  | .identify => 3
  | .soak => 4
  | .stress => 5
  | .report => 6

/-- The stage after each, up to REPORT (R20). -/
def Stage.next : Stage → Option Stage
  | .muster => some .static
  | .static => some .identify
  | .identify => some .soak
  | .soak => some .stress
  | .stress => some .report
  | .report => none

/-- A length in ms as microseconds. -/
def msToUs (ms : Nat) : Nat := ms * 1000

/-- The hold-off, 40 µs (R40). -/
def holdOffUs : Nat := 40

/-- The settle delay, 1 ms (R119). -/
def settleDelayUs : Nat := 1000

/-- The framing marker (R81). -/
def framingMarker : BitVec 32 := 0x3C5A96E1#32

/-- A marker is seen with at most this many bits different (R86). -/
def markerTolerance : Nat := 3

/-- Framing is lost at this many missed markers in a row (R86). -/
def missLimit : Nat := 4

/-- Bits in one token period (R81). -/
def periodLength : Nat := 65536

/-- Pattern bits in one token period (R81). -/
def patternBitsPerPeriod : Nat := 65472

/-- Full swing in sixteenths (R84). -/
def fullSwing : Nat := 16

/-- Tokens from one source that settle a class (R105). -/
def matchTarget : Nat := 16

/-- Block events without a valid token that settle UNDECODED (R107). -/
def undecodedTarget : Nat := 64

/-- V_low, V_open, V_rail (R68) and V_induced (R70), in microvolts. -/
def vLow : MicroVolts := 200000
def vOpen : MicroVolts := 1000000
def vRail : MicroVolts := 1600000
def vInduced : MicroVolts := 50000

/-- The errors that settle a count FAILED (R122). -/
def failErrors : Nat := 16

/-- The confidence weight k(e), e = 0..15 (R123). -/
def confidenceWeights : List Nat := [12, 19, 26, 32, 37, 43, 48, 53, 58, 63, 68, 73, 78, 83, 88, 93]

/-- k(e); the table has no row from e = 16 on, and no count asks for one (R123). -/
def confidenceWeight (e : Nat) : Nat := confidenceWeights.getD e 93

/-- The threshold of a count with e errors and target exponent T: k(e) × 2^(T−2) compared bits (R123). -/
def countThreshold (t e : Nat) : Nat := confidenceWeight e * 2 ^ (t - 2)

/-- The skip count's bound (R152). -/
def skipLimit : Nat := 4

end Sys2Proof.Machine
end

