-- ==== Sys2Proof/Machine/Wiring.lean ====
section
/-! DEFINITION. The Strap and Wiring Unit (chapter 1): the identity from the straps, and the wiring tables as functions of it. -/
namespace Sys2Proof.Machine

/-- R1: the identity the SWU forms from the straps it samples as reset ends. -/
def Identity.ofStraps (st : Straps) : Identity :=
  { slot := st.slot.toNat + 1
    slots := st.slots.toNat + 1
    topology := if st.topo then .star else .mesh
    widthCode := min st.width.toNat 2
    policy := if st.policy then .carryOn else .stopAll }

/-- The role of a station (R1). -/
inductive Role where
  | meshStation
  | hub
  | node
  deriving DecidableEq, Repr

namespace Identity

/-- R1: lanes per port W, from the width code. -/
def lanes (id : Identity) : Nat := 2 ^ id.widthCode

/-- R1. -/
def role (id : Identity) : Role :=
  match id.topology with
  | .mesh => .meshStation
  | .star => if id.slot ≤ 2 then .hub else .node

/-- R3. -/
def barred (id : Identity) : Bool :=
  id.slots < 2 || (id.topology == .star && id.slots < 3) || id.slot > id.slots

/-- R3, R4. -/
def portCount (id : Identity) : Nat :=
  if id.barred then 0
  else match id.role with
    | .meshStation | .hub => id.slots - 1
    | .node => 2

/-- R8: the ports kept. -/
def keptPorts (id : Identity) : Nat := min id.portCount (32 / id.lanes)

/-- R8: the truncated-ports figure. -/
def truncatedPorts (id : Identity) : Nat := id.portCount - id.keptPorts

/-- R5, R6, R7: the peer slot of port p. -/
def portPeer (id : Identity) (p : Nat) : Nat :=
  match id.role with
  | .meshStation => if p + 1 < id.slot then p + 1 else p + 2
  | .node => p + 1
  | .hub => if p = id.slots - 2 then 3 - id.slot else p + 3

/-- R5, R6, R7: the far-end port of port p. -/
def farPort (id : Identity) (p : Nat) : Nat :=
  match id.role with
  | .meshStation => if p + 1 < id.slot then id.slot - 2 else id.slot - 1
  | .node => id.slot - 3
  | .hub => if p = id.slots - 2 then id.slots - 2 else id.slot - 1

/-- R4: the peer set, as the list of the ports' peers in port order. -/
def peerSet (id : Identity) : List Nat := (List.range id.portCount).map id.portPeer

/-- R9. -/
def inUse (id : Identity) (c : Chan) : Bool := c.val / id.lanes < id.keptPorts

/-- R11: the expected source of an in-use channel; an unused channel has none. -/
def expectedSource (id : Identity) (c : Chan) : Option Source :=
  if id.inUse c then
    some { slot := id.portPeer (c.val / id.lanes)
           channel := id.farPort (c.val / id.lanes) * id.lanes + c.val % id.lanes }
  else none

/-- R10: an in-use channel whose expected peer channel names no channel of any LT-32. -/
def farTruncated (id : Identity) (c : Chan) : Bool :=
  match id.expectedSource c with
  | some src => src.channel ≥ 32
  | none => false

/-- R12. -/
def expectedCount (id : Identity) (q : Nat) : Nat :=
  if (List.range id.keptPorts).any (fun p => id.portPeer p == q) then id.lanes else 0

end Identity

namespace State

/-- R1: the own slot number; 0 while reset is held, when the SWU holds no identity. -/
def ownSlot (s : State) : Nat := (s.identity.map (·.slot)).getD 0

/-- R3: while reset is held the station is presented as not barred. -/
def barred (s : State) : Bool := (s.identity.map (·.barred)).getD false

/-- R9: while reset is held every channel is unused. -/
def inUse (s : State) (c : Chan) : Bool :=
  match s.identity with
  | some id => id.inUse c
  | none => false

/-- The in-use channels in ascending order. -/
def inUseChans (s : State) : List Chan := (List.finRange 32).filter s.inUse

/-- R11. -/
def expectedSource (s : State) (c : Chan) : Option Source := s.identity.bind (·.expectedSource c)

/-- R12. -/
def expectedCount (s : State) (q : Nat) : Nat := (s.identity.map (·.expectedCount q)).getD 0

/-- R1: whether stop causes halt the station. -/
def stopAll (s : State) : Bool :=
  match s.identity with
  | some id => id.policy == .stopAll
  | none => false

end State

end Sys2Proof.Machine
end

