-- ==== Sys2Proof/Machine/Flags.lean ====
section
/-! DEFINITION. The judgements formed from the records: the channel and slot verdicts, the report flags and the lamp patterns
(chapter 10). None is stored, but for what each lamp now shows. -/
namespace Sys2Proof.Machine

/-- R154. -/
inductive ChannelVerdict where
  | pass
  | fail
  | untested
  | excused
  deriving DecidableEq, Repr

/-- R157. -/
inductive SlotVerdict where
  | pass
  | fail
  | incomplete
  | barred
  deriving DecidableEq, Repr

namespace Channel

/-- R154 step 1. -/
def excused (r : Channel) : Bool := r.ident.cls == some .noPeer && r.static.cls == some .openPair

/-- R155: every mapping class but MATCH and UNTESTED fails the channel. -/
def classFails (r : Channel) : Bool :=
  match r.ident.cls with
  | none | some .match_ | some .untested => false
  | some .laneSwap | some .foreignPort | some .wrongPeer | some .loopback | some .unstable => true
  | some .undecoded | some .silent | some .noPeer => true

/-- R155. -/
def outcomeFails : Option CountOutcome → Bool
  | some .failed | some .lost | some .undersampled | some .notRun => true
  | none | some .met | some .halted | some .untested => false

/-- R155: the scan's outcome and figures. -/
def scanFails (p : Params) (sc : Scan) : Bool :=
  match sc.outcome with
  | some .closed | some .aborted | some .notRun => true
  | some .complete =>
    match sc.figures with
    | some f => f.w < p.wMin || f.h < p.hMin
    | none => false
  | none | some .cut | some .untested => false

/-- R155: a static class present and other than TERMINATED. -/
def staticFails (r : Channel) : Bool :=
  match r.static.cls with
  | none | some .terminated => false
  | some .openPair | some .shortLow | some .shortHigh | some .unstable => true

/-- R155. -/
def fails (p : Params) (r : Channel) : Bool :=
  r.staticFails || r.static.bridged || r.classFails || r.rx.invertedFlag || r.ident.duplicate || r.ident.sourceChanged ||
    r.rx.deadFlag || outcomeFails r.soak.outcome || outcomeFails r.stress.outcome || scanFails p r.scan

/-- R156: an untested count item (absent is read as untested). -/
def outcomeUntested : Option CountOutcome → Bool
  | none | some .halted | some .untested => true
  | some .met | some .failed | some .lost | some .undersampled | some .notRun => false

/-- R156: an untested scan item (absent is read as untested). -/
def scanUntested : Option ScanOutcome → Bool
  | none | some .cut | some .untested => true
  | some .complete | some .closed | some .aborted | some .notRun => false

/-- R156: an untested mapping class (absent is read as untested). -/
def classUntested : Option MappingClass → Bool
  | none | some .untested => true
  | some .match_ | some .laneSwap | some .foreignPort | some .wrongPeer | some .loopback | some .unstable => false
  | some .undecoded | some .silent | some .noPeer => false

/-- R156. -/
def untested (r : Channel) : Bool :=
  r.static.cls == none || classUntested r.ident.cls || outcomeUntested r.soak.outcome ||
    outcomeUntested r.stress.outcome || scanUntested r.scan.outcome

/-- R154: the four steps in order. -/
def verdict (p : Params) (r : Channel) : ChannelVerdict :=
  if r.excused then .excused
  else if r.fails p then .fail
  else if r.untested then .untested
  else .pass

end Channel

namespace State

/-- The record of channel c. -/
def chan (s : State) (c : Chan) : Channel := s.channels[c.val]

/-- R154. -/
def channelVerdict (s : State) (c : Chan) : ChannelVerdict := (s.chan c).verdict s.swc.params

/-- R165: the number of in-use channels with a verdict. -/
def verdictCount (s : State) (v : ChannelVerdict) : Nat :=
  (s.inUseChans.filter fun c => s.channelVerdict c == v).length

/-- R157. -/
def slotVerdict (s : State) : SlotVerdict :=
  if s.barred then .barred
  else if s.inUseChans.any (fun c => s.channelVerdict c == .fail) || s.swc.flags.slotConflict then .fail
  else if s.swc.haltReason != .none || s.inUseChans.any (fun c => s.channelVerdict c == .untested) then .incomplete
  else .pass

end State

/-- What a lamp is to show (R158). -/
inductive LampPattern where
  | off
  | steady
  | blink (rate : BlinkRate)
  deriving DecidableEq, Repr

/-- R158: the patterns of LAMP_OK and LAMP_FLT. -/
def State.lampPatterns (s : State) : LampPattern × LampPattern :=
  match s.swc.station with
  | .reset => (.off, .off)
  | .listen => (.off, if s.swc.foreignSweep then .blink .oneHz else .off)
  | .inStage _ | .halted _ => (.blink .twoHz, .off)
  | .barred => (.off, .steady)
  | .done =>
    match s.slotVerdict with
    | .pass => (.steady, .off)
    | .fail | .barred => (.off, .steady)
    | .incomplete => (.off, .blink .oneHz)

/-- R158: a lamp takes a pattern. A blink already running at that rate runs on; a new one starts with its on half. -/
def Lamp.take (lamp : Lamp) : LampPattern → Lamp
  | .off => .off
  | .steady => .steady
  | .blink rate =>
    match lamp with
    | .blink rate' lit => if rate' = rate then .blink rate lit else .blink rate true
    | .off | .steady => .blink rate true

/-- R158: the other half of a blink. -/
def Lamp.toggle : Lamp → Lamp
  | .off => .off
  | .steady => .steady
  | .blink rate lit => .blink rate (!lit)

/-- What a lamp shows, as a pattern. -/
def Lamp.pattern : Lamp → LampPattern
  | .off => .off
  | .steady => .steady
  | .blink rate _ => .blink rate

/-- R158: both lamps take their patterns. -/
def State.refreshLamps (s : State) : State :=
  { s with swc := { s.swc with lampOk := s.swc.lampOk.take s.lampPatterns.1
                               lampFlt := s.swc.lampFlt.take s.lampPatterns.2 } }

namespace State

/-- R67: whether a station's own receive pair c presents its termination. -/
def rxTerminated (s : State) (c : Chan) : Bool :=
  match s.swc.station with
  | .inStage .static | .inStage .identify | .inStage .soak | .inStage .stress => s.inUse c
  | .inStage .muster | .inStage .report | .reset | .listen | .barred | .halted _ | .done => false

/-- R28: whether a station's own transmit pair c has its termination on for the probe. -/
def txTerminated (s : State) (c : Chan) : Bool :=
  match s.swc.station with
  | .inStage .static => s.inUse c && !(s.chan c).static.barred
  | .inStage _ | .reset | .listen | .barred | .halted _ | .done => false

/-- R65, R66: the own pair into which the probe current flows, if any. -/
def probeCurrent (s : State) : Option Chan :=
  match s.spu with
  | .probing r => if r.currentOn then some r.round else none
  | .idle | .finished => none

end State

end Sys2Proof.Machine
end

