-- ==== Sys2Proof/Machine/Token.lean ====
section
/-! DEFINITION. What the lanes carry (chapter 6, R175): the pattern, the marker, the token and its extended Hamming code. -/
namespace Sys2Proof.Machine

/-! ### The pattern (R80) -/

/-- The bit that follows 31 bits of the pattern, the newest in bit 0: the exclusive-or of the bits 28 and 31 places before. -/
def nextPatternBit (r : BitVec 31) : Bool := r.getLsbD 27 ^^ r.getLsbD 30

/-- The last 31 bits once that bit has joined them. -/
def advancePattern (r : BitVec 31) : BitVec 31 := (r <<< 1) ||| BitVec.setWidth 31 (BitVec.ofBool (nextPatternBit r))

/-- The last 31 bits after n further bits. -/
def advancePatternBy : Nat → BitVec 31 → BitVec 31
  | 0, r => r
  | n + 1, r => advancePatternBy n (advancePattern r)

/-- The first 31 bits after the transmitter enters RUNNING: all ones. -/
def patternSeed : BitVec 31 := BitVec.allOnes 31

/-- Bit k of the transmitted sequence, from 0. -/
def patternBit (k : Nat) : Bool := (advancePatternBy k patternSeed).getLsbD 30

/-- R90: the n bits of w, first bit in the top place, all agree with the prediction from r. -/
def predictionAgrees : (n : Nat) → BitVec 31 → BitVec 1024 → Bool
  | 0, _, _ => true
  | n + 1, r, w => (w.getLsbD n == nextPatternBit r) && predictionAgrees n (advancePattern r) w

/-! ### Polarity and the marker -/

/-- R91: bits as taken in the lock polarity. -/
def Polarity.take {n : Nat} (pol : Polarity) (w : BitVec n) : BitVec n :=
  match pol with
  | .normal => w
  | .inverted => ~~~w

/-- R91: one bit as taken in the lock polarity. -/
def Polarity.takeBit (pol : Polarity) (b : Bool) : Bool :=
  match pol with
  | .normal => b
  | .inverted => !b

/-- How many bits of a 32-bit word are one. -/
def ones32 (w : BitVec 32) : Nat := ((List.range 32).filter fun i => w.getLsbD i).length

/-- R86: the marker is seen if at most 3 of the 32 bits differ from it. -/
def markerSeen (received : BitVec 32) : Bool := ones32 (received ^^^ framingMarker) ≤ markerTolerance

/-- R90: the form in which a 32-bit run is the marker, with no bit differing: as sent, or complemented. -/
def markerForm (run : BitVec 32) : Option Polarity :=
  if run = framingMarker then some .normal
  else if run = ~~~framingMarker then some .inverted
  else none

/-- R90: two finds in one form, and its polarity. -/
def searchForm (find1 find2 : BitVec 32) : Option Polarity :=
  match markerForm find1, markerForm find2 with
  | some a, some b => if a = b then some a else none
  | _, _ => none

/-- R90: the outcome of a search from what was received: the polarity and the checker reference after the 1,024 seeding
comparisons, if the three conditions hold. -/
def searchResult (find1 find2 : BitVec 32) (seed : BitVec 31) (next : BitVec 1024) : Option (Polarity × BitVec 31) :=
  match searchForm find1 find2 with
  | none => none
  | some pol =>
    if predictionAgrees 1024 (pol.take seed) (pol.take next) then some (pol, advancePatternBy 1024 (pol.take seed)) else none

/-! ### The token (R82, R175) -/

/-- The six fields of a token (R82). -/
structure Token where
  slot : BitVec 5
  channel : BitVec 5
  stage : BitVec 3
  tag : BitVec 8
  slotsMinusOne : BitVec 4
  topology : Bool
  deriving DecidableEq, Repr

/-- The 26 information bits, the first in codeword position order in the top place (R175). -/
def Token.info (t : Token) : BitVec 26 :=
  t.slot ++ t.channel ++ t.stage ++ t.tag ++ t.slotsMinusOne ++ BitVec.ofBool t.topology

/-- The fields of 26 information bits (R175). -/
def Token.ofInfo (w : BitVec 26) : Token :=
  { slot := w.extractLsb' 21 5
    channel := w.extractLsb' 16 5
    stage := w.extractLsb' 13 3
    tag := w.extractLsb' 5 8
    slotsMinusOne := w.extractLsb' 1 4
    topology := w.getLsbD 0 }

/-- The information positions of the codeword, ascending (R83). -/
def infoPositions : List Nat :=
  [3, 5, 6, 7, 9, 10, 11, 12, 13, 14, 15, 17, 18, 19, 20, 21, 22, 23, 24, 25, 26, 27, 28, 29, 30, 31]

/-- The word with a one at position i exactly when b (position i is bit i). -/
def bitAt (i : Nat) (b : Bool) : BitVec 32 := if b then 1#32 <<< i else 0#32

/-- The information bits in their positions, every other position 0. -/
def placeInfo (info : BitVec 26) : BitVec 32 :=
  (infoPositions.zipIdx.map fun p => bitAt p.1 (info.getLsbD (25 - p.2))).foldl (· ||| ·) 0#32

/-- The information bits taken from their positions. -/
def takeInfo (w : BitVec 32) : BitVec 26 :=
  (infoPositions.zipIdx.map fun p => if w.getLsbD p.1 then 1#26 <<< (25 - p.2) else 0#26).foldl (· ||| ·) 0#26

/-- The exclusive-or of the bits at the positions below n that sel picks. -/
def parityBelow (sel : Nat → Bool) (w : BitVec 32) : Nat → Bool
  | 0 => false
  | n + 1 => parityBelow sel w n ^^ (sel n && w.getLsbD n)

/-- R83, R87: the parity of the positions 1..31 whose number has bit i set. -/
def checkParity (i : Nat) (w : BitVec 32) : Bool := parityBelow (fun p => p.testBit i) w 32

/-- R83, R87: the parity of all 32 positions. -/
def overallParity (w : BitVec 32) : Bool := parityBelow (fun _ => true) w 32

/-- R83: the word with the five check bits set for even parity over each check's positions. -/
def withChecks (w : BitVec 32) : BitVec 32 :=
  w ||| bitAt 1 (checkParity 0 w) ||| bitAt 2 (checkParity 1 w) ||| bitAt 4 (checkParity 2 w) |||
    bitAt 8 (checkParity 3 w) ||| bitAt 16 (checkParity 4 w)

/-- R83: the codeword of a token; bit i is position i. -/
def Token.encode (t : Token) : BitVec 32 :=
  let w := withChecks (placeInfo t.info)
  w ||| bitAt 0 (overallParity w)

/-- R81, R175: bit k, from 0, of a token period: the marker, its most significant bit first; the codeword, position 0 first and
position 31 last; then pattern bits, patternSent of which went out in the periods before. -/
def periodBit (codeword : BitVec 32) (patternSent k : Nat) : Bool :=
  if k < 32 then framingMarker.getLsbD (31 - k)
  else if k < 64 then codeword.getLsbD (k - 32)
  else patternBit (patternSent + (k - 64))

/-- R87: the syndrome, 0..31. -/
def syndrome (w : BitVec 32) : Nat :=
  (checkParity 0 w).toNat + 2 * (checkParity 1 w).toNat + 4 * (checkParity 2 w).toNat + 8 * (checkParity 3 w).toNat +
    16 * (checkParity 4 w).toNat

/-- The three decode results (R87). -/
inductive Decoded where
  | clean (t : Token)
  | corrected (t : Token)
  | uncorrectable
  deriving DecidableEq, Repr

/-- R87: the decoder acts on the syndrome and the overall parity alone. -/
def decodeToken (w : BitVec 32) : Decoded :=
  if overallParity w then .corrected (Token.ofInfo (takeInfo (w ^^^ bitAt (syndrome w) true)))
  else if syndrome w = 0 then .clean (Token.ofInfo (takeInfo w))
  else .uncorrectable

/-- The token of a clean or corrected decode. -/
def Decoded.token? : Decoded → Option Token
  | .clean t => some t
  | .corrected t => some t
  | .uncorrectable => none

/-- The source a token names (R104). -/
def Token.source (t : Token) : Source := { slot := t.slot.toNat, channel := t.channel.toNat }

end Sys2Proof.Machine
end

