-- ==== Sys2Proof/Machine/Operands.lean ====
section
/-! DEFINITION. How operands are read: the fields of received payloads (R19, R176), probe voltages (R68, R70) and the fields
of a RECALL (R162). -/
namespace Sys2Proof.Machine

/-- R19: a value below the range is stored as its lowest, one above as its highest. -/
def clamp (lo hi x : Nat) : Nat := max lo (min x hi)

/-- R19, R176: the parameters stored from a BEGIN. -/
def Params.ofBegin (f : BeginFields) : Params :=
  { tag := f.tag
    tSoak := clamp 20 40 f.tSoak.toNat
    tStress := clamp 20 40 f.tStress.toNat
    p := clamp 16 28 f.p.toNat
    swing := clamp 4 15 f.swing.toNat
    wMin := clamp 0 64 f.wMin.toNat
    hMin := clamp 0 63 f.hMin.toNat
    budget := clamp 1 15 f.budget.toNat
    retrainMs := clamp 1 255 f.retrainMs.toNat
    musterMs := clamp 1 65535 f.musterMs.toNat
    identifyMs := clamp 1 65535 f.identifyMs.toNat
    soakMs := clamp 1 65535 f.soakMs.toNat
    stressMs := clamp 1 65535 f.stressMs.toNat
    reportMs := clamp 1 65535 f.reportMs.toNat
    barrierMs := clamp 1 65535 f.barrierMs.toNat }

/-- The limit of a stage, as the stage limit timer is started; STATIC has none (R21). -/
def Params.stageLimit (p : Params) : Stage → Timer
  | .muster => .running (msToUs p.musterMs)
  | .static => .stopped
  | .identify => .running (msToUs p.identifyMs)
  | .soak => .running (msToUs p.soakMs)
  | .stress => .running (msToUs p.stressMs)
  | .report => .running (msToUs p.reportMs)

/-- The target exponent of the count of a stage (R118, R128); T_soak outside STRESS, where no other count runs. -/
def Params.target (p : Params) : Stage → Nat
  | .stress => p.tStress
  | .muster | .static | .identify | .soak | .report => p.tSoak

/-- Whether a timer runs. -/
def Timer.isRunning : Timer → Bool
  | .stopped => false
  | .running _ => true

/-- R176: the low 4 bits, plus 1. -/
def presentSlots (f : PresentFields) : Nat := f.slotsMinusOne.toNat % 16 + 1

/-- R176: bit 0. -/
def presentTopology (f : PresentFields) : Topology := if f.topology.getLsbD 0 then .star else .mesh

/-- R176: a received 3 or more is taken as 2. -/
def presentWidthCode (f : PresentFields) : Nat := min f.width.toNat 2

/-- R162: the own slot value and the target agree wherever the mask has a one, over the four low bits. -/
def recallAddresses (f : RecallFields) (ownSlot : Nat) : Bool :=
  ((BitVec.ofNat 8 (ownSlot - 1) ^^^ f.target) &&& f.mask &&& 0x0F#8) == 0#8

/-- R176: bit c puts channel c in the set. -/
def recallWants (f : RecallFields) (c : Chan) : Bool := f.channels.getLsbD c.val

/-- R176: bit 0. -/
def recallWantsSummary (f : RecallFields) : Bool := f.summary.getLsbD 0

/-- R68: the class of one sample. -/
def sampleClass (v : MicroVolts) : StaticClass :=
  if v < vLow then .shortLow
  else if v ≤ vOpen then .terminated
  else if v ≤ vRail then .openPair
  else .shortHigh

/-- R69: the static class from the sample classes. -/
def staticClassOf : List StaticClass → StaticClass
  | [] => .unstable
  | k :: ks => if ks.all (· == k) then k else .unstable

/-- The sample classes of pair c (R68); a pair that was not sensed gives none. -/
def ProbeRound.sampleClasses (r : ProbeRound) (c : Chan) : List StaticClass :=
  r.samples.filterMap fun v => (v[c.val]).map sampleClass

/-- R70: some sample of pair c exceeds its reference reading by more than V_induced. -/
def ProbeRound.rose (r : ProbeRound) (c : Chan) : Bool :=
  match r.reference with
  | none => false
  | some ref =>
    match ref[c.val] with
    | none => false
    | some v0 => r.samples.any fun v =>
      match v[c.val] with
      | some v1 => v1 - v0 > vInduced
      | none => false

/-- The levels of the pairs that are sensed. -/
def senseWhere (sensed : Chan → Bool) (levels : Vector MicroVolts 32) : Readings :=
  Vector.ofFn fun c => if sensed c then some levels[c.val] else none

end Sys2Proof.Machine
end

