-- ==== Sys2Proof/WellFormed.lean ====
section
/-! DEFINITION. The checks on a command's operands. A frame that fails one is dropped by the receiver (R168); a loss position
outside every frame never comes. -/
namespace Sys2Proof

/-- SRC is a station number, 0..16 (R168). -/
def srcOk (src : Byte) : Bool := src.toNat ≤ 16

/-- The LEN a SLOTREP may have: 11 + 2k, k = 0..15 (R168). -/
def slotrepLenOk (n : Nat) : Bool := 11 ≤ n && n ≤ 41 && n % 2 == 1

/-- The longest frame the part sends is 46 bytes of ten bit times (R168). -/
def longestFrameBits : Nat := 460

/-- A command whose operands the spec admits. -/
def Instr.wellFormed : Instr → Bool
  | .beginFrame src _ => srcOk src
  | .ceaseFrame src _ => srcOk src
  | .presentFrame src _ => srcOk src
  | .recallFrame src _ => srcOk src
  | .lanerepReceived src payload => srcOk src && payload.length == 41
  | .slotrepReceived src payload => srcOk src && slotrepLenOk payload.length
  | .contentionLoss bit => decide (bit < longestFrameBits)
  | .resetBegin | .resetEnd _ | .busIdle | .frameDrop _ | .frameStart | .frameComplete | .cbStopEdge _ => true
  | .stopQualifiedLow | .stopQualifiedHigh | .cbStepEdge _ | .barrierTaken | .holdOffExpiry => true
  | .barrierLimitExpiry | .idleSecond | .stageLimitExpiry | .musterDoubleLimit | .probeCurrentOn => true
  | .probeCurrentOff | .roundEnd | .tokenPeriodStart _ | .clockAcquired _ | .acquisitionTimeout _ => true
  | .searchSuccess _ _ _ _ _ | .searchTimeout _ | .tokenBlockEnd _ _ _ | .clockLoss _ => true
  | .retrainTimerExpiry _ | .settleDelayExpiry | .comparedBit _ _ _ | .pointEnd _ | .lampBlinkToggle => true
  | .startBit | .probeReferenceReading _ | .probeSample _ => true

end Sys2Proof
end

