-- ==== Sys2Proof/Machine/Frames.lean ====
section
/-! DEFINITION. The frames of the commissioning bus (chapter 11): bits, CRC-8, the layouts of all six kinds, the frames the
part builds from its live records, and the checks by which a received frame is accepted. -/
namespace Sys2Proof.Machine

/-! ### Bytes, bits and the CRC -/

/-- A number as one byte. -/
def byte (n : Nat) : Byte := BitVec.ofNat 8 n

/-- An absent field in every byte it occupies (R177). -/
def absentByte : Byte := 0xFF#8

/-- A number as k bytes, most significant first (R176). -/
def bytesBE : Nat → Nat → List Byte
  | 0, _ => []
  | k + 1, n => byte (n / 256 ^ k) :: bytesBE k n

/-- A flag at bit i of a byte. -/
def flagBit (i : Nat) (b : Bool) : Nat := if b then 2 ^ i else 0

/-- One of the eight steps of R169. -/
def crcStep (v : Byte) : Byte := if v.getLsbD 7 then (v <<< 1) ^^^ 0x31#8 else v <<< 1

/-- The running value after one byte (R169). -/
def crcByte (v b : Byte) : Byte :=
  crcStep (crcStep (crcStep (crcStep (crcStep (crcStep (crcStep (crcStep (v ^^^ b))))))))

/-- The CRC-8 of the covered bytes (R169). -/
def crc8 (bytes : List Byte) : Byte := bytes.foldl crcByte 0xFF#8

/-- The ten bit times of a byte: start bit, data most significant first, stop bit (R166). -/
def byteBits (b : Byte) : List Bool :=
  [false, b.getLsbD 7, b.getLsbD 6, b.getLsbD 5, b.getLsbD 4, b.getLsbD 3, b.getLsbD 2, b.getLsbD 1, b.getLsbD 0, true]

/-- The bits of a frame on the line, with no gap between bytes (R166). -/
def lineBits (bytes : List Byte) : List Bool := bytes.flatMap byteBits

/-! ### Frames (R168) -/

/-- R168. -/
inductive FrameKind where
  | present
  | begin
  | cease
  | recall
  | lanerep
  | slotrep
  deriving DecidableEq, Repr

/-- R168. -/
def FrameKind.code : FrameKind → Byte
  | .present => 0x01#8
  | .begin => 0x02#8
  | .cease => 0x03#8
  | .recall => 0x04#8
  | .lanerep => 0x11#8
  | .slotrep => 0x12#8

/-- R168: one of the six codes. -/
def FrameKind.ofCode (b : Byte) : Option FrameKind :=
  [FrameKind.present, .begin, .cease, .recall, .lanerep, .slotrep].find? fun k => k.code == b

/-- R168: the payload lengths accepted for a kind. -/
def FrameKind.lenOk : FrameKind → Nat → Bool
  | .present, n => n == 5
  | .begin, n => n == 21
  | .cease, n => n == 1
  | .recall, n => n == 8
  | .lanerep, n => n == 41
  | .slotrep, n => slotrepLenOk n

/-- R168: lead, SRC, KIND, LEN, payload and CRC. -/
def frameBytes (src : Byte) (kind : FrameKind) (payload : List Byte) : List Byte :=
  0xAA#8 :: (([src, kind.code, byte payload.length] ++ payload) ++
    [crc8 ([src, kind.code, byte payload.length] ++ payload)])

/-! ### Payloads received (R176) -/

/-- R176. -/
def presentFieldBytes (f : PresentFields) : List Byte := [f.tag, f.slotsMinusOne, f.topology, f.width, f.policy]

/-- The high and the low byte of a 16-bit field (R176). -/
def bytes16 (x : BitVec 16) : List Byte := [x.extractLsb' 8 8, x.extractLsb' 0 8]

/-- R176. -/
def beginFieldBytes (f : BeginFields) : List Byte :=
  [f.tag, f.tSoak, f.tStress, f.p, f.swing, f.wMin, f.hMin, f.budget, f.retrainMs] ++ bytes16 f.musterMs ++
    bytes16 f.identifyMs ++ bytes16 f.soakMs ++ bytes16 f.stressMs ++ bytes16 f.reportMs ++ bytes16 f.barrierMs

/-- R176: offset 2 of the payload holds channels 31..24. -/
def recallFieldBytes (f : RecallFields) : List Byte :=
  [f.target, f.mask, f.channels.extractLsb' 24 8, f.channels.extractLsb' 16 8, f.channels.extractLsb' 8 8,
    f.channels.extractLsb' 0 8, f.count, f.summary]

/-- The command that stands for an accepted frame of a kind, by the layouts of R176; none where the payload's length is not
one R168 accepts. -/
def commandOf (src : Byte) : FrameKind → List Byte → Option Instr
  | .present, [tag, sl, topo, w, pol] => some (.presentFrame src ⟨tag, sl, topo, w, pol⟩)
  | .begin, [tag, ts, tr, p, sw, wm, hm, b, rp, m1, m0, i1, i0, s1, s0, t1, t0, r1, r0, l1, l0] =>
    some (.beginFrame src ⟨tag, ts, tr, p, sw, wm, hm, b, rp, m1 ++ m0, i1 ++ i0, s1 ++ s0, t1 ++ t0, r1 ++ r0, l1 ++ l0⟩)
  | .cease, [tag] => some (.ceaseFrame src tag)
  | .recall, [target, mask, c3, c2, c1, c0, n, sm] =>
    some (.recallFrame src ⟨target, mask, c3 ++ c2 ++ c1 ++ c0, n, sm⟩)
  | .lanerep, payload => if payload.length = 41 then some (.lanerepReceived src payload) else none
  | .slotrep, payload => if slotrepLenOk payload.length then some (.slotrepReceived src payload) else none
  | _, _ => none

/-- R168: the checks on a whole received frame, byte by byte: lead, SRC, KIND, LEN and CRC. The answer is the command that
the accepted frame is; none where the frame is dropped. -/
def acceptFrame : List Byte → Option Instr
  | lead :: src :: kind :: len :: rest =>
    if lead = 0xAA#8 && srcOk src then
      match FrameKind.ofCode kind with
      | none => none
      | some k =>
        if k.lenOk len.toNat && rest.length == len.toNat + 1 &&
            rest.getLast? == some (crc8 (src :: kind :: len :: rest.dropLast)) then
          commandOf src k rest.dropLast
        else none
    else none
  | _ => none

/-- The frame that a received-frame command stands for, as its sender laid it out (R168, R176); none for other commands. -/
def receivedFrame : Instr → Option (List Byte)
  | .presentFrame src f => some (frameBytes src .present (presentFieldBytes f))
  | .beginFrame src f => some (frameBytes src .begin (beginFieldBytes f))
  | .ceaseFrame src tag => some (frameBytes src .cease [tag])
  | .recallFrame src f => some (frameBytes src .recall (recallFieldBytes f))
  | .lanerepReceived src payload => some (frameBytes src .lanerep payload)
  | .slotrepReceived src payload => some (frameBytes src .slotrep payload)
  | _ => none

/-! ### Codes of R177 -/

/-- R177. -/
def MappingClass.code : MappingClass → Nat
  | .match_ => 0
  | .laneSwap => 1
  | .foreignPort => 2
  | .wrongPeer => 3
  | .loopback => 4
  | .unstable => 5
  | .undecoded => 6
  | .silent => 7
  | .noPeer => 8
  | .untested => 9

/-- R177. -/
def StaticClass.code : StaticClass → Nat
  | .terminated => 0
  | .openPair => 1
  | .shortLow => 2
  | .shortHigh => 3
  | .unstable => 4

/-- R177. -/
def CountOutcome.code : CountOutcome → Nat
  | .met => 0
  | .failed => 1
  | .lost => 2
  | .undersampled => 3
  | .notRun => 4
  | .halted => 5
  | .untested => 6

/-- R177. -/
def ScanOutcome.code : ScanOutcome → Nat
  | .complete => 0
  | .closed => 1
  | .aborted => 2
  | .cut => 3
  | .notRun => 4
  | .untested => 5

/-- R177. -/
def FaultKind.code : FaultKind → Nat
  | .tokenUncorrectable => 0
  | .lockLost => 1
  | .bitError => 2
  | .foreignToken => 3

/-- R177. -/
def ChannelVerdict.code : ChannelVerdict → Nat
  | .pass => 0
  | .fail => 1
  | .untested => 2
  | .excused => 3

/-- R177. -/
def SlotVerdict.code : SlotVerdict → Nat
  | .pass => 0
  | .fail => 1
  | .incomplete => 2
  | .barred => 3

/-- R177. -/
def HaltReason.code : HaltReason → Nat
  | .none => 0
  | .stopSeen => 1
  | .shortHigh => 2
  | .slotConflict => 3
  | .barrierStall => 4
  | .ceased => 5

/-- R177: the bridge partner's byte. -/
def BridgePartner.code : BridgePartner → Nat
  | .own c => c.val
  | .foreign => 0x20

/-- R177: an optional one-byte field. -/
def optByte : Option Nat → Byte
  | some n => byte n
  | none => absentByte

/-! ### Payloads sent (R53, R64, R164, R165, R177) -/

/-- R53, R176: the PRESENT payload. -/
def presentPayload (s : State) : List Byte :=
  match s.identity with
  | some id =>
    [s.swc.params.tag, byte (id.slots - 1), byte (match id.topology with | .mesh => 0 | .star => 1), byte id.widthCode,
      byte (match id.policy with | .stopAll => 0 | .carryOn => 1)]
  | none => [s.swc.params.tag, 0#8, 0#8, 0#8, 0#8]

/-- The peer entry of a slot, if listed. -/
def State.peer (s : State) (q : Nat) : Option PeerEntry := s.peers.find? fun e => e.slot == q

/-- R63: the channel flag UNANNOUNCED_PEER. -/
def State.unannouncedPeer (s : State) (c : Chan) : Bool :=
  match (s.chan c).ident.heard with
  | none => false
  | some src =>
    match s.peer src.slot with
    | some e => !e.announced
    | none => false

/-- R164, R177: the flags byte of a LANEREP. -/
def lanerepFlags (s : State) (c : Chan) : Byte :=
  let r := s.chan c
  byte (flagBit 0 r.rx.invertedFlag + flagBit 1 r.ident.duplicate + flagBit 2 r.ident.sourceChanged +
    flagBit 3 (s.unannouncedPeer c) + flagBit 4 r.rx.deadFlag + flagBit 5 r.static.bridged)

/-- R133, R177: the eight bytes of a count. -/
def StageCount.payload (k : StageCount) : List Byte := optByte (k.outcome.map (·.code)) :: byte k.e :: bytesBE 6 k.n

/-- R177: a source in two bytes. -/
def sourcePayload : Option Source → List Byte
  | some src => [byte src.slot, byte src.channel]
  | none => [absentByte, absentByte]

/-- R177: O and C are carried with 16 added. -/
def signedByte (x : Int) : Byte := byte (x + 16).toNat

/-- R177: W, H, O and C. -/
def figuresPayload : Option ScanFigures → List Byte
  | some f => [byte f.w, byte f.h, signedByte f.o, signedByte f.c]
  | none => [absentByte, absentByte, absentByte, absentByte]

/-- R177: the snapshot's eight bytes. -/
def snapshotPayload : Option Snapshot → List Byte
  | some sn => byte sn.stage.code :: byte sn.kind.code :: bytesBE 6 sn.n
  | none => [absentByte, absentByte, absentByte, absentByte, absentByte, absentByte, absentByte, absentByte]

/-- R164, R177: the 41 bytes of a LANEREP payload. -/
def lanerepPayload (s : State) (c : Chan) : List Byte :=
  let r := s.chan c
  [byte c.val, s.swc.params.tag] ++ sourcePayload (s.expectedSource c) ++ sourcePayload r.ident.heard ++
    [optByte (r.ident.cls.map (·.code)), lanerepFlags s c, optByte (r.static.cls.map (·.code)),
      optByte (r.static.partner.map (·.code)), byte r.rx.retrainCount] ++
    r.soak.payload ++ r.stress.payload ++ [optByte (r.scan.outcome.map (·.code))] ++ figuresPayload r.scan.figures ++
    snapshotPayload r.snapshot ++ [byte (s.channelVerdict c).code]

/-- R64: a peer record. -/
def PeerEntry.payload (e : PeerEntry) : List Byte :=
  [byte e.slot, byte (flagBit 0 e.announced + flagBit 1 e.mismatch + flagBit 2 (decide (e.heard > 0)) +
    flagBit 3 (decide (e.expected > 0 ∧ e.matched = e.expected)))]

/-- R177: the station flags byte. -/
def StationFlags.payload (f : StationFlags) : Byte :=
  byte (flagBit 0 f.slotConflict + flagBit 1 f.stopSeen + flagBit 2 f.unannouncedPeer + flagBit 3 f.barrierStall)

/-- R165, R177: the SLOTREP payload, 11 bytes and 2 per peer record. -/
def slotrepPayload (s : State) : List Byte :=
  [byte s.ownSlot, s.swc.params.tag, byte s.slotVerdict.code, byte s.swc.haltReason.code, s.swc.flags.payload,
    byte (s.verdictCount .pass), byte (s.verdictCount .fail), byte (s.verdictCount .excused),
    byte (s.verdictCount .untested), byte ((s.identity.map (·.truncatedPorts)).getD 0), byte s.peers.length] ++
    s.peers.flatMap (·.payload)

/-- R161, R171: the frame of a queue entry, built from the live records. -/
def buildFrame (s : State) : Entry → List Byte
  | .present => frameBytes (byte s.ownSlot) .present (presentPayload s)
  | .lanerep c => frameBytes (byte s.ownSlot) .lanerep (lanerepPayload s c)
  | .slotrep => frameBytes (byte s.ownSlot) .slotrep (slotrepPayload s)

end Sys2Proof.Machine
end

