-- ==== Sys2Proof/Machine/Records.lean ====
section
/-! DEFINITION. What one Channel Record does, as functions of the record alone: identification, counts, snapshot, receiver,
transmitter and scan items (chapters 5 to 9). -/
namespace Sys2Proof.Machine

/-! ### First-fault snapshot (R129, R130) -/

/-- R129: the first fault event writes the snapshot; a written one stands. -/
def Channel.noteFault (st : Stage) (kind : FaultKind) (n : Nat) (r : Channel) : Channel :=
  match r.snapshot with
  | some _ => r
  | none => { r with snapshot := some { stage := st, kind := kind, n := n } }

/-! ### Stage counts (chapter 8) -/

/-- The count of a stage: none but SOAK and STRESS has one (R118). -/
def Channel.count? (r : Channel) : Stage → Option StageCount
  | .soak => some r.soak
  | .stress => some r.stress
  | .muster | .static | .identify | .report => none

/-- A change of the count of a stage. -/
def Channel.mapCount (st : Stage) (f : StageCount → StageCount) (r : Channel) : Channel :=
  match st with
  | .soak => { r with soak := f r.soak }
  | .stress => { r with stress := f r.stress }
  | .muster | .static | .identify | .report => r

/-- R129: the bit number of the count in COUNTING, or 0. -/
def Channel.countingN (st : Stage) (r : Channel) : Nat :=
  match r.count? st with
  | some k => if k.state = .counting then k.n else 0
  | none => 0

namespace StageCount

/-- A count settles with an outcome; n and e are frozen (R118). -/
def settle (o : CountOutcome) (k : StageCount) : StageCount := { k with state := .settled, outcome := some o }

/-- R119, R124: the stage is entered; a DEAD channel does not wait. -/
def enter (dead : Bool) (k : StageCount) : StageCount :=
  if dead then k.settle .notRun else { k with state := .waiting }

/-- R120: a WAITING count begins, with n = 0 and e = 0. -/
def start (k : StageCount) : StageCount :=
  if k.state = .waiting then { k with state := .counting, n := 0, e := 0 } else k

/-- R122: one compared bit, the four steps in order. -/
def takeBit (t : Nat) (err : Bool) (k : StageCount) : StageCount :=
  let n := k.n + 1
  let e := if err then k.e + 1 else k.e
  if e ≥ failErrors then { k with n := n, e := e, state := .settled, outcome := some .failed }
  else if n ≥ countThreshold t e then { k with n := n, e := e, state := .settled, outcome := some .met }
  else { k with n := n, e := e }

/-- R125: a lock loss settles a count in COUNTING LOST. -/
def lose (k : StageCount) : StageCount := if k.state = .counting then k.settle .lost else k

/-- R124: "dead" settles a WAITING count NOT_RUN. -/
def die (k : StageCount) : StageCount := if k.state = .waiting then k.settle .notRun else k

/-- R126: the stage limit. -/
def expire (k : StageCount) : StageCount :=
  match k.state with
  | .counting => k.settle .undersampled
  | .waiting => k.settle .notRun
  | .idle | .settled => k

/-- R127: a halt. A count whose stage was not reached becomes UNTESTED; an open one becomes HALTED. -/
def halt (k : StageCount) : StageCount :=
  match k.state with
  | .idle => k.settle .untested
  | .waiting | .counting => k.settle .halted
  | .settled => k

end StageCount

/-! ### Identification (chapter 7) -/

/-- R110: the class from the captured source; the first row whose condition holds. -/
def classFromCapture (id : Identity) (c : Chan) (heard : Source) : MappingClass :=
  if heard.slot = id.slot then .loopback
  else match id.expectedSource c with
    | none => .wrongPeer
    | some want =>
      if heard.slot ≠ want.slot then .wrongPeer
      else if heard.channel = want.channel then .match_
      else if heard.channel / id.lanes = want.channel / id.lanes then .laneSwap
      else .foreignPort

namespace Ident

/-- R102: the class is written in the event that takes the channel to SETTLED. -/
def settle (k : MappingClass) (i : Ident) : Ident := { i with state := .settled, cls := some k }

/-- R104, R105, R106, R115: a block event carrying a valid token from src. cls is the class that a capture of src gives. -/
def takeToken (cls : MappingClass) (src : Source) (i : Ident) : Ident :=
  match i.state with
  | .idle => i
  | .opened =>
    match i.heard with
    | none => { i with heard := some src, matchCount := 1, undecodedRun := 0 }
    | some h =>
      if h = src then
        let j := { i with matchCount := i.matchCount + 1, undecodedRun := 0 }
        if j.matchCount ≥ matchTarget then j.settle cls else j
      else { i with undecodedRun := 0 }.settle .unstable
  | .settled =>
    match i.heard with
    | none => i
    | some h => if h = src then i else { i with sourceChanged := true }

/-- R107: a block event carrying no valid token. -/
def takeNoToken (i : Ident) : Ident :=
  match i.state with
  | .opened =>
    let j := { i with undecodedRun := min (i.undecodedRun + 1) undecodedTarget }
    if j.undecodedRun ≥ undecodedTarget && i.heard.isNone then j.settle .undecoded else j
  | .idle | .settled => i

/-- R107: "locked" and "lock lost" set the undecoded run to 0 in OPEN. -/
def clearRun (i : Ident) : Ident := if i.state = .opened then { i with undecodedRun := 0 } else i

/-- R108, R109: an OPEN channel settles from its capture, or with the class its silence gives. -/
def settleOpen (fromCapture : Source → MappingClass) (silence : MappingClass) (i : Ident) : Ident :=
  if i.state = .opened then
    match i.heard with
    | some h => i.settle (fromCapture h)
    | none => i.settle silence
  else i

/-- R114: a halt settles IDLE and OPEN as UNTESTED. -/
def halt (i : Ident) : Ident :=
  match i.state with
  | .idle | .opened => i.settle .untested
  | .settled => i

end Ident

/-- R115, R130: whether a valid token from src differs from a settled channel's heard source. -/
def Ident.differs (src : Source) (i : Ident) : Bool :=
  match i.state, i.heard with
  | .settled, some h => h != src
  | _, _ => false

/-! ### Receiver (chapter 6) -/

/-- A lock attempt is in flight (R85). -/
def RxState.attempting : RxState → Bool
  | .acquiring | .searching | .spotWait | .spotRun => true
  | .off | .locked | .retrainWait | .held | .dead => false

/-- The receiver follows the framing (R86). -/
def RxState.following : RxState → Bool
  | .spotWait | .spotRun | .locked => true
  | .off | .acquiring | .searching | .retrainWait | .held | .dead => false

namespace Rx

/-- R89: a lock attempt starts. -/
def startAttempt (x : Rx) : Rx := { x with state := .acquiring, retrainTimer := .stopped }

/-- R95, R96: the retrain count rises; the receiver waits out the retrain period, or is DEAD. -/
def countFailure (p : Params) (x : Rx) : Rx :=
  if x.retrainCount + 1 ≤ p.budget then
    { x with state := .retrainWait, retrainCount := x.retrainCount + 1, retrainTimer := .running (msToUs p.retrainMs),
             reference := none }
  else
    { x with state := .dead, deadFlag := true, retrainCount := x.retrainCount + 1, retrainTimer := .stopped,
             reference := none }

/-- R99: the stage limit ends an attempt uncounted. -/
def expire (x : Rx) : Rx := if x.state.attempting then { x with state := .held, reference := none } else x

/-- R100, R101: the receiver stops; a DEAD one stays DEAD. -/
def stop (x : Rx) : Rx :=
  if x.state = .dead then x else { x with state := .off, retrainTimer := .stopped, reference := none }

/-- R89, R98: a stage entry starts the attempt of a HELD receiver. -/
def resume (x : Rx) : Rx := if x.state = .held then x.startAttempt else x

end Rx

/-! ### Scan items (chapter 9) -/

namespace Scan

/-- R136. -/
def settle (o : ScanOutcome) (k : Scan) : Scan := { k with state := .settled, outcome := some o }

/-- R142: STRESS entry. -/
def enter (rx : RxState) (k : Scan) : Scan :=
  match rx with
  | .locked => { k with state := .pending }
  | .dead => k.settle .notRun
  | .off | .acquiring | .searching | .spotWait | .spotRun | .retrainWait | .held => { k with state := .awaitLock }

/-- R147: a lock loss. -/
def lose (k : Scan) : Scan :=
  match k.state with
  | .pending => { k with state := .awaitLock }
  | .granted => if k.attempts ≥ 2 then k.settle .aborted else { k with state := .awaitLock }
  | .idle | .awaitLock | .settled => k

/-- R148: "dead". -/
def die (k : Scan) : Scan :=
  match k.state with
  | .awaitLock | .pending | .granted => k.settle (if k.attempts = 0 then .notRun else .aborted)
  | .idle | .settled => k

/-- R149: the STRESS limit. -/
def expire (k : Scan) : Scan :=
  match k.state with
  | .awaitLock | .pending | .granted => k.settle (if k.attempts = 0 then .notRun else .cut)
  | .idle | .settled => k

/-- R31, R150: a halt. -/
def halt (k : Scan) : Scan :=
  match k.state with
  | .idle => k.settle .untested
  | .awaitLock | .pending | .granted => k.settle .cut
  | .settled => k

end Scan

/-! ### Whole records at stage edges -/

namespace Channel

/-- R79: RUNNING from its seed at full swing, unless barred. -/
def startTx (r : Channel) : Tx :=
  if r.static.barred then .off else .running { swing := fullSwing, patternSent := 0, codeword := none }

/-- R24, R79, R89, R103: entry to IDENTIFY. -/
def enterIdentify (r : Channel) : Channel :=
  { r with tx := r.startTx
           rx := if r.rx.state = .dead then r.rx else r.rx.startAttempt
           ident := { r.ident with state := .opened } }

/-- R25, R98, R119: entry to SOAK. -/
def enterSoak (r : Channel) : Channel :=
  { r with soak := r.soak.enter (r.rx.state == .dead), rx := r.rx.resume }

/-- R84: the swing of a RUNNING transmitter. -/
def setSwing (swing : Nat) (tx : Tx) : Tx :=
  match tx with
  | .off => .off
  | .running t => .running { t with swing := swing }

/-- R26, R84, R98, R119, R142: entry to STRESS. -/
def enterStress (p : Params) (r : Channel) : Channel :=
  { r with tx := setSwing p.swing r.tx
           stress := r.stress.enter (r.rx.state == .dead)
           scan := r.scan.enter r.rx.state
           rx := r.rx.resume }

/-- R27, R100: entry to REPORT. -/
def enterReport (r : Channel) : Channel := { r with tx := .off, rx := r.rx.stop }

/-- R31, R101, R114, R127, R150: a halt. -/
def haltRecord (r : Channel) : Channel :=
  { r with tx := .off, rx := r.rx.stop, ident := r.ident.halt, soak := r.soak.halt, stress := r.stress.halt,
           scan := r.scan.halt }

end Channel

end Sys2Proof.Machine
end

