-- ==== Sys2Proof/Machine/Ops.lean ====
section
/-! DEFINITION. The named operations over the blocks: reading and changing a block or a Channel Record, the two stage lines,
the Outbound Queue, the Peer List and the eye monitor's requests. -/
namespace Sys2Proof.Machine

/-- The outcome of one command. -/
abbrev Result := Host.Outcome State Fault Refusal

/-! ### Blocks and records -/

namespace State

def mapSwc (f : Swc → Swc) (s : State) : State := { s with swc := f s.swc }
def mapLif (f : Lif → Lif) (s : State) : State := { s with lif := f s.lif }
def mapEmn (f : Emn → Emn) (s : State) : State := { s with emn := f s.emn }
def mapCfe (f : Cfe → Cfe) (s : State) : State := { s with cfe := f s.cfe }
def setSpu (x : Spu) (s : State) : State := { s with spu := x }
def setPeers (ps : List PeerEntry) (s : State) : State := { s with peers := ps }

/-- A change of one channel's record. -/
def mapChan (c : Chan) (f : Channel → Channel) (s : State) : State :=
  { s with channels := s.channels.set c.val (f (s.chan c)) c.isLt }

/-- The records with every in-use channel's changed; an unused channel has none (R9). Irreducible, so that unifying two states
never evaluates the 32 records. -/
@[irreducible] def inUseMapped (f : Chan → Channel → Channel) (s : State) : Vector Channel 32 :=
  Vector.ofFn fun c => if s.inUse c then f c (s.chan c) else s.chan c

/-- A change of every in-use channel's record. -/
def mapInUse (f : Chan → Channel → Channel) (s : State) : State := { s with channels := s.inUseMapped f }

/-- Some in-use channel's record has the property. -/
def anyInUse (p : Channel → Bool) (s : State) : Bool := s.inUseChans.any fun c => p (s.chan c)

/-- Every in-use channel's record has the property. -/
def allInUse (p : Channel → Bool) (s : State) : Bool := s.inUseChans.all fun c => p (s.chan c)

end State

/-! ### Lines (chapter 3) -/

namespace Lif

/-- R35, R37: the station pulls CB_STEP, and the line is low from this event. -/
def pullStep (l : Lif) : Lif :=
  { l with stepDrive := .pulled, phase := .holding, stepLine := .low, idleHigh := .stopped, barrierRun := false }

/-- R38: the station releases a stage. -/
def releaseStep (barrierUs : Nat) (l : Lif) : Lif :=
  { l with stepDrive := .released, phase := .waiting, holdOff := .stopped, barrierLimit := .running barrierUs,
           barrierRun := l.stepLine == .high }

/-- R43: the station's part in the barrier ends. -/
def leaveBarrier (l : Lif) : Lif :=
  { l with stepDrive := .released, phase := .off, barrierLimit := .stopped, holdOff := .stopped, barrierRun := false }

/-- R44: the station pulls CB_STOP; a line that was high is low from this event, and its new run is timed (R36). -/
def pullStop (l : Lif) : Lif :=
  { l with stopDrive := .pulled
           stopLine := .low
           stopRun := if l.stopLine = .high then .timing else l.stopRun }

/-- R45. -/
def releaseStop (l : Lif) : Lif := { l with stopDrive := .released }

/-- R36: the run of the present level is reported, and the qualified level is that level. -/
def qualifyStop (l : Lif) : Lif := { l with stopQualified := some l.stopLine, stopRun := .reported }

end Lif

/-! ### Outbound Queue (R159 to R163) -/

/-- R159: an event adds no entry that is already in the queue. -/
def enqueue (q : List Entry) (e : Entry) : List Entry := if e ∈ q then q else q ++ [e]

/-- R27, R160: a LANEREP for each in-use channel in ascending order, then the SLOTREP. -/
def State.reportEntries (s : State) : List Entry := s.inUseChans.map Entry.lanerep ++ [.slotrep]

/-- R160: the reports join the queue. -/
def State.queueReports (s : State) : State :=
  s.mapCfe fun f => { f with queue := s.reportEntries.foldl enqueue f.queue }

/-- R161: the entry leaves the queue. -/
def Cfe.removeEntry (e : Entry) (f : Cfe) : Cfe := { f with queue := f.queue.erase e }

/-- R27, R32, R161: only the entry whose frame is on the line stays, and it goes when that frame ends. -/
def Cfe.keepOnlyLine (f : Cfe) : Cfe :=
  match f.onLine with
  | some lf => { f with queue := [lf.entry], onLine := some { lf with dropOnLoss := true } }
  | none => { f with queue := [] }

/-- R163: the first channels of a list, in order, that are not queued yet, at most limit of them (none: no limit). -/
def recallPick (q : List Entry) (limit : Option Nat) : List Chan → List Entry
  | [] => []
  | c :: cs =>
    if Entry.lanerep c ∈ q then recallPick q limit cs
    else match limit with
      | some 0 => []
      | some (k + 1) => .lanerep c :: recallPick q (some k) cs
      | none => .lanerep c :: recallPick q none cs

/-- R163: a count of 0 means no limit. -/
def recallLimit (count : Byte) : Option Nat := if count = 0#8 then none else some count.toNat

/-! ### Peer List (chapter 4) -/

/-- R52: a new entry. -/
def State.newPeer (s : State) (q : Nat) (announced : Bool) : PeerEntry :=
  { slot := q, announced := announced, mismatch := false, expected := s.expectedCount q, heard := 0, matched := 0 }

/-- R52, R55, R59: the list with the change made to the entry for fresh.slot, which is created in its place in slot order
if the list holds none. -/
def upsertPeer (fresh : PeerEntry) (change : PeerEntry → PeerEntry) : List PeerEntry → List PeerEntry
  | [] => [change fresh]
  | e :: es =>
    if fresh.slot < e.slot then change fresh :: e :: es
    else if fresh.slot = e.slot then change e :: es
    else e :: upsertPeer fresh change es

/-- R56, R59: the mismatch test; a set flag stays set. -/
def PeerEntry.noteMismatch (differs : Bool) (e : PeerEntry) : PeerEntry := { e with mismatch := e.mismatch || differs }

/-- R56: whether a PRESENT shows another wiring rule. -/
def presentDiffers (id : Identity) (f : PresentFields) : Bool :=
  presentSlots f != id.slots || presentTopology f != id.topology || presentWidthCode f != id.widthCode

/-- R59: whether a token shows another wiring rule. -/
def tokenDiffers (id : Identity) (t : Token) : Bool :=
  t.slotsMinusOne.toNat + 1 != id.slots || (if t.topology then Topology.star else .mesh) != id.topology

/-- R59: a valid token of another slot is offered to the PLS. -/
def State.offerToken (id : Identity) (t : Token) (s : State) : State :=
  let q := t.slot.toNat
  let known := (s.peer q).isSome
  let s1 := s.setPeers (upsertPeer (s.newPeer q false) (·.noteMismatch (tokenDiffers id t)) s.peers)
  if known then s1 else s1.mapSwc fun w => { w with flags := { w.flags with unannouncedPeer := true } }

/-- R60: the in-use channels that captured a source of slot q. -/
def State.heardFrom (s : State) (q : Nat) : List Chan :=
  s.inUseChans.filter fun c => (s.chan c).ident.heard.any fun src => src.slot == q

/-- R60: Heard and Matched channels of every entry. -/
def State.fillPeerCounts (s : State) : State :=
  s.setPeers (s.peers.map fun e =>
    { e with heard := (s.heardFrom e.slot).length
             matched := ((s.heardFrom e.slot).filter fun c => (s.chan c).ident.cls == some .match_).length })

/-- R113: DUPLICATE on every two in-use channels with equal heard sources. -/
def State.markDuplicates (s : State) : State :=
  s.mapInUse fun c r =>
    { r with ident := { r.ident with duplicate := r.ident.duplicate ||
      (r.ident.heard.isSome && s.inUseChans.any fun d => d != c && (s.chan d).ident.heard == r.ident.heard) } }

/-- R62: the class of a channel that settles without a captured source while not LOCKED. -/
def State.silentClass (s : State) (c : Chan) : MappingClass :=
  match s.expectedSource c with
  | none => .noPeer
  | some src =>
    match s.peer src.slot with
    | some e => if e.announced then .silent else .noPeer
    | none => .noPeer

/-- R110 for this station. -/
def State.captureClass (s : State) (c : Chan) (heard : Source) : MappingClass :=
  match s.identity with
  | some id => classFromCapture id c heard
  | none => .wrongPeer

/-! ### Eye monitor requests and grants (chapter 9) -/

/-- R134: the pending SPOT set with a channel added. -/
def addSpot (c : Chan) : List Chan → List Chan
  | [] => [c]
  | d :: ds => if c < d then c :: d :: ds else if c = d then d :: ds else d :: addSpot c ds

/-- The first point of a SPOT (R140) and of a SCAN (R144). -/
def spotFirstPoint : EyePoint := { phase := 8, threshold := 0, chop := .normal }
def spotSecondPoint : EyePoint := { phase := -8, threshold := 0, chop := .normal }
def scanOrigin : EyePoint := { phase := 0, threshold := 0, chop := .normal }

/-- R143: no reading is set when a scan starts. -/
def ScanReadings.none : ScanReadings :=
  { r := Option.none, l := Option.none, upA := Option.none, downA := Option.none, upB := Option.none, downB := Option.none }

/-- R138: a point starts with its counters cleared. -/
def grantAt (c : Chan) (pr : Procedure) (pt : EyePoint) : Grant :=
  { channel := c, procedure := pr, point := pt, bits := 0, disagreed := false }

namespace Emn

/-- R152: the skip count is 0 whenever the SCAN queue is left empty. -/
def setQueue (q : List Chan) (m : Emn) : Emn := { m with scanQueue := q, skip := if q = [] then 0 else m.skip }

/-- R135: the grant ends and the monitor is FREE. -/
def free (m : Emn) : Emn := { m with grant := none }

/-- R141: the channel's SPOT is withdrawn, or its granted SPOT ended. -/
def dropSpot (c : Chan) (m : Emn) : Emn :=
  { m with spotPending := m.spotPending.erase c
           grant := match m.grant with
             | some g => if g.channel = c then none else some g
             | none => none }

/-- R147: the channel's SCAN is withdrawn from the queue, or its granted SCAN stopped. -/
def dropScan (c : Chan) (m : Emn) : Emn := { (m.setQueue (m.scanQueue.erase c)) with
  grant := match m.grant with
    | some g => if g.channel = c then none else some g
    | none => none }

end Emn

/-- R152, R151: one grant decision, made when the monitor is FREE and a request is pending. -/
def State.arbitrate (s : State) : State :=
  match s.emn.grant with
  | some _ => s
  | none =>
    match s.emn.spotPending, s.emn.scanQueue, decide (s.emn.skip < skipLimit) with
    | c :: cs, q, true =>
      (s.mapEmn fun m => { m with grant := some (grantAt c (.spot none) spotFirstPoint), spotPending := cs,
                                   skip := if q = [] then m.skip else m.skip + 1 }).mapChan c
        fun r => { r with rx := { r.rx with state := .spotRun } }
    | _, c :: cs, _ =>
      (s.mapEmn fun m => { m with grant := some (grantAt c (.scan .origin .none) scanOrigin), scanQueue := cs,
                                   skip := 0 }).mapChan c
        fun r => { r with scan := { r.scan with state := .granted, attempts := r.scan.attempts + 1 } }
    | _, [], _ => s

end Sys2Proof.Machine
end

