-- ==== Sys2Proof/Machine/Sweep.lean ====
section
/-! DEFINITION. The shared operations of a sweep: stage entry, release, halt, stop causes, DONE, the settling of channels, and
what a failed attempt or a lock loss does (chapters 2, 3, 6 to 9). -/
namespace Sys2Proof.Machine

namespace State

/-! ### Release (R20, R38) -/

/-- The release condition of the stage the station is in (R22 to R27). -/
def releaseReady (s : State) : Bool :=
  match s.swc.station with
  | .inStage .muster => s.swc.limitExpired && !(s.cfe.queue.contains .present)
  | .inStage .static => s.spu == .finished
  | .inStage .identify => s.allInUse fun r => r.ident.state == .settled
  | .inStage .soak => s.allInUse fun r => r.soak.state == .settled
  | .inStage .stress => s.allInUse fun r => r.stress.state == .settled && r.scan.state == .settled
  | .inStage .report => s.cfe.queue.isEmpty
  | .reset | .listen | .barred | .halted _ | .done => false

/-- R20 step 3, R38. -/
def release (s : State) : State :=
  (s.mapSwc fun w => { w with released := true, stageTimer := .stopped }).mapLif
    (·.releaseStep (msToUs s.swc.params.barrierMs))

/-- R20: a release condition that holds is acted on while the pull for the stage is in place, once per stage. -/
def tryRelease (s : State) : State :=
  if s.lif.phase = .holding ∧ s.swc.released = false ∧ s.releaseReady = true then s.release else s

/-! ### DONE (R34, R45) -/

/-- Entry to DONE: the pull on CB_STOP ends, and the lamps show the slot verdict. -/
def enterDone (s : State) : State :=
  ((s.mapSwc fun w => { w with station := .done, stageTimer := .stopped }).mapLif
    (·.leaveBarrier.releaseStop)).refreshLamps

/-! ### Halts (R29 to R32, R43) -/

/-- R32, R160: the reports are queued. A PRESENT not on the line is removed first; one on the line keeps the queue to itself
until its frame ends, and its entry is then removed whether it completed or was lost. -/
def haltQueue (s : State) : State :=
  match s.cfe.onLine with
  | some lf =>
    if lf.entry = .present then s.mapCfe fun f => { f with onLine := some { lf with dropOnLoss := true } }
    else (s.mapCfe (·.removeEntry .present)).queueReports
  | none => (s.mapCfe (·.removeEntry .present)).queueReports

/-- R30 to R32, R43, R76, R101, R114, R127, R150: the halt event of a station in stage st. -/
def haltIn (why : HaltReason) (st : Stage) (s : State) : State :=
  haltQueue
    { ((s.mapInUse fun _ r => r.haltRecord).mapLif Lif.leaveBarrier) with
      swc := { s.swc with station := .halted st, stageTimer := .stopped, settleDelay := .stopped
                          haltReason := if s.swc.haltReason = .none then why else s.swc.haltReason }
      spu := .idle
      emn := Emn.initial }

/-- R29: a halt is taken in MUSTER..STRESS alone. -/
def halt (why : HaltReason) (s : State) : State :=
  match s.swc.station with
  | .inStage .report => s
  | .inStage st => s.haltIn why st
  | .reset | .listen | .barred | .halted _ | .done => s

/-- R29: under STOP_ALL the cause halts the station. -/
def haltIfStopAll (why : HaltReason) (s : State) : State := if s.stopAll then s.halt why else s

def setFlags (f : StationFlags → StationFlags) (s : State) : State := s.mapSwc fun w => { w with flags := f w.flags }

/-- R46: a stop seen. -/
def takeStopSeen (s : State) : State := (s.setFlags fun f => { f with stopSeen := true }).haltIfStopAll .stopSeen

/-- R46, R47: the condition of a stop seen. -/
def stopSeenHolds (s : State) : Bool := s.lif.stopQualified == some .low && s.lif.stopDrive == .released

/-- R29, R44, R74: the SHORT_HIGH stop cause. -/
def takeShortHigh (s : State) : State := (s.mapLif Lif.pullStop).haltIfStopAll .shortHigh

/-- R29, R30, R44, R50, R57, R173: a slot conflict, by the station state. -/
def takeSlotConflict (s : State) : State :=
  let s1 := s.setFlags fun f => { f with slotConflict := true }
  match s.swc.station with
  | .inStage .report | .barred => s1
  | .done => s1.refreshLamps
  | .inStage _ => (s1.mapLif Lif.pullStop).haltIfStopAll .slotConflict
  | .halted _ => s1.mapLif Lif.pullStop
  | .reset | .listen => s

/-! ### Foreign-sweep indication (R15, R49, R158) -/

def setForeign (on : Bool) (s : State) : State := (s.mapSwc fun w => { w with foreignSweep := on }).refreshLamps

/-- R15: a tagged frame in LISTEN. -/
def noteTaggedFrame (s : State) : State := if s.swc.station = .listen then s.setForeign true else s

/-! ### Stage entry (R20, R23 to R27) -/

/-- R20 step 1: the current stage is set, the released indication cleared and the stage limit timer started. -/
def beginStage (st : Stage) (s : State) : State :=
  s.mapSwc fun w => { w with station := .inStage st, released := false, limitExpired := false
                             stageTimer := w.params.stageLimit st }

/-- R119. -/
def startSettleDelay (s : State) : State := s.mapSwc fun w => { w with settleDelay := .running settleDelayUs }

/-- R66: round r starts, with the current off and no reading taken. -/
def probeRoundAt (r : Chan) : Spu := .probing { round := r, currentOn := false, reference := none, samples := [] }

/-- The channels LOCKED now, in ascending order (R142). -/
def lockedChans (s : State) : List Chan := s.inUseChans.filter fun c => (s.chan c).rx.state == .locked

/-- The work of a stage at its entry (R23 to R27). MUSTER is entered by BEGIN alone. -/
def enterWork (st : Stage) (s : State) : State :=
  match st with
  | .muster => s
  | .static => s.setSpu (probeRoundAt 0)
  | .identify => (s.setSpu .idle).mapInUse fun _ r => r.enterIdentify
  | .soak => s.startSettleDelay.mapInUse fun _ r => r.enterSoak
  | .stress =>
    let s1 := s.startSettleDelay.mapEmn fun m => m.setQueue (m.scanQueue ++ s.lockedChans)
    (s1.mapInUse fun _ r => r.enterStress s.swc.params).arbitrate
  | .report => ((s.mapInUse fun _ r => r.enterReport).mapEmn fun _ => Emn.initial).queueReports

/-- R20, R39: entry to a stage at a barrier. -/
def enterStage (st : Stage) (s : State) : State := (s.beginStage st).enterWork st

/-! ### Settling (R24, R113) -/

/-- Some in-use channel's mapping class is still open. -/
def identOpen (s : State) : Bool := s.anyInUse fun r => r.ident.state == .opened

/-- R113: IDENTIFY completion: DUPLICATE marks, then the Peer List counts. -/
def completeIdentify (s : State) : State := s.markDuplicates.fillPeerCounts

/-- The close of an event that may settle items: IDENTIFY completion if the last OPEN channel settled in it, then the release
if its condition holds (R20, R24, R113). before is the state the event began in. -/
def finish (before s : State) : State :=
  if s.swc.station = .inStage .identify ∧ before.identOpen = true ∧ s.identOpen = false then
    s.completeIdentify.tryRelease
  else s.tryRelease

/-! ### Failed attempts, lock losses, DEAD (R94 to R96) -/

/-- R96, R108, R124, R148: "dead" settles the channel's items of the current stage. -/
def settleDead (c : Chan) (s : State) : State :=
  match s.swc.station with
  | .inStage st => s.mapChan c fun r =>
    { (r.mapCount st StageCount.die) with
      ident := r.ident.settleOpen (s.captureClass c) (s.silentClass c)
      scan := r.scan.die }
  | .reset | .listen | .barred | .halted _ | .done => s

/-- R95: the retrain count rises, and a channel that becomes DEAD settles its items. -/
def countFailure (c : Chan) (s : State) : State :=
  let s1 := s.mapChan c fun r => { r with rx := r.rx.countFailure s.swc.params }
  if (s1.chan c).rx.state = .dead then s1.settleDead c else s1

/-- R92, R95, R141: a lock attempt fails in any phase. -/
def failAttempt (c : Chan) (s : State) : State :=
  finish s ((s.mapEmn (·.dropSpot c)).countFailure c).arbitrate

/-- R94, R107, R125, R130: what a lock loss does to the channel's own items. -/
def loseRecord (st : Stage) (r : Channel) : Channel :=
  let r1 := r.noteFault st .lockLost (r.countingN st)
  { (r1.mapCount st StageCount.lose) with ident := r.ident.clearRun, scan := r.scan.lose }

/-- R94, R147: a LOCKED receiver loses lock. -/
def loseLock (c : Chan) (s : State) : State :=
  match s.swc.station with
  | .inStage st =>
    finish s (((s.mapChan c (loseRecord st)).mapEmn (·.dropScan c)).countFailure c).arbitrate
  | .reset | .listen | .barred | .halted _ | .done => s

/-! ### LOCKED (R93) -/

/-- R93, R120: "locked" reaches the identification, the stage count once the settle delay has ended, and the scan. -/
def lockRecord (st : Stage) (delayEnded : Bool) (r : Channel) : Channel :=
  let r1 := if delayEnded then r.mapCount st StageCount.start else r
  { r1 with rx := { r.rx with state := .locked }
            ident := r.ident.clearRun
            scan := if r.scan.state = .awaitLock then { r.scan with state := .pending } else r.scan }

/-- R93, R142: the receiver enters LOCKED; a scan that waited for the lock raises its request. -/
def lock (c : Chan) (s : State) : State :=
  match s.swc.station with
  | .inStage st =>
    let s1 := s.mapChan c (lockRecord st (!s.swc.settleDelay.isRunning))
    if (s.chan c).scan.state = .awaitLock then s1.mapEmn fun m => m.setQueue (m.scanQueue ++ [c]) else s1
  | .reset | .listen | .barred | .halted _ | .done => s

end State

end Sys2Proof.Machine
end

