-- ==== Sys2Proof/Machine/BusFrames.lean ====
section
/-! DEFINITION. The six frames as they are accepted: BEGIN, CEASE, PRESENT, RECALL, LANEREP and SLOTREP (R15 to R19, R33, R55
to R58, R162, R163, R170). -/
namespace Sys2Proof.Machine

/-- R167: the receiver after the last byte of a received frame; while an own frame is on the line it goes on following it. -/
def Cfe.endFrame (f : Cfe) : Cfe := if f.onLine.isSome then f else { f with receiver := .waitIdle }

/-- R167, R168, R170: a frame has been received to its end. Only a receiver in FRAME is inside a frame: one in WAIT_IDLE follows
none, and in IDLE none has begun; in RESET nothing is received. A frame that fails a check is dropped and changes no record; an
accepted one is handed to its block, which acts by the station state. -/
def receive (ok : Bool) (take : State → State) (s : State) : Result :=
  if s.swc.station ≠ .reset ∧ s.cfe.receiver = .frame then
    if ok then .next (take (s.mapCfe Cfe.endFrame)) else .next (s.mapCfe Cfe.endFrame)
  else .next s

/-- R18, R19, R22, R37: the acceptance event: the previous sweep is cleared, the clamped parameters stored, MUSTER entered
with CB_STEP pulled, and the PRESENT queued. A frame of the station's own that was on the line has stopped (R17). -/
def State.openSweep (f : BeginFields) (s : State) : State :=
  { s with
    swc := { s.swc with station := .inStage .muster, params := Params.ofBegin f, released := false, limitExpired := false
                        stageTimer := (Params.ofBegin f).stageLimit .muster, haltReason := .none
                        flags := StationFlags.clear, foreignSweep := false, settleDelay := .stopped }
    lif := s.lif.pullStep
    spu := .idle
    channels := Vector.replicate 32 Channel.initial
    emn := Emn.initial
    peers := []
    cfe := { receiver := .waitIdle, queue := [.present], onLine := none } }

/-- R17, R18, R46: acceptance of BEGIN; a STOP level already qualified low is a stop seen in the same event. Under STOP_ALL the
halt then releases CB_STEP in the event that pulled it. The spec does not say what the line shows in that case; the model's
choice (notes/assumptions/21.md) is that the pull shows: the line stands LOW until a CB_STEP_EDGE brings the rise. -/
def State.acceptBegin (f : BeginFields) (s : State) : State :=
  let s1 := (s.openSweep f).refreshLamps
  if s1.stopSeenHolds then s1.takeStopSeen else s1

/-- R16: a BEGIN in BARRED: its tag is stored, and a SLOTREP is queued unless one is. -/
def State.barredBegin (f : BeginFields) (s : State) : State :=
  (s.mapSwc fun w => { w with params := { w.params with tag := f.tag } }).mapCfe fun g =>
    { g with queue := enqueue g.queue .slotrep }

/-- R17. -/
def State.takeBegin (f : BeginFields) (s : State) : State :=
  match s.swc.station with
  | .listen | .done => s.acceptBegin f
  | .barred => s.barredBegin f
  | .reset | .inStage _ | .halted _ => s

/-- BEGIN (R15 to R19, R46, R170). -/
def execBegin (src : Byte) (f : BeginFields) (s : State) : Result := receive (srcOk src) (·.takeBegin f) s

/-- R33: a CEASE with the current tag is a halt cause in MUSTER..STRESS, under both policies. -/
def State.takeCease (tag : Byte) (s : State) : State :=
  match s.swc.station with
  | .listen => s.noteTaggedFrame
  | .inStage _ => if tag = s.swc.params.tag then s.halt .ceased else s
  | .reset | .barred | .halted _ | .done => s

/-- CEASE (R33, R170). -/
def execCease (src : Byte) (tag : Byte) (s : State) : Result := receive (srcOk src) (·.takeCease tag) s

/-- R55, R56: the PLS takes a PRESENT of another slot. -/
def State.takePresentFrom (id : Identity) (q : Nat) (f : PresentFields) (s : State) : State :=
  s.setPeers (upsertPeer (s.newPeer q true) (·.noteMismatch (presentDiffers id f)) s.peers)

/-- R55, R57, R58: a PRESENT by its source and tag and the station state. -/
def State.takePresent (src : Byte) (f : PresentFields) (s : State) : State :=
  match s.swc.station, s.identity with
  | .listen, _ => s.noteTaggedFrame
  | .inStage .muster, some id =>
    if src.toNat = 0 ∨ f.tag ≠ s.swc.params.tag then s
    else if src.toNat = id.slot then s.takeSlotConflict
    else s.takePresentFrom id src.toNat f
  | _, _ => s

/-- PRESENT (R55 to R58, R170). -/
def execPresent (src : Byte) (f : PresentFields) (s : State) : Result := receive (srcOk src) (·.takePresent src f) s

/-- R163: LANEREPs in ascending channel order up to the count, then the SLOTREP. -/
def State.fillFromRecall (f : RecallFields) (s : State) : State :=
  let picked := recallPick s.cfe.queue (recallLimit f.count) (s.inUseChans.filter (recallWants f))
  let q := s.cfe.queue ++ picked
  s.mapCfe fun g => { g with queue := if recallWantsSummary f then enqueue q .slotrep else q }

/-- R162: a RECALL is taken in DONE by the stations it addresses. -/
def State.takeRecall (f : RecallFields) (s : State) : State :=
  if s.swc.station = .done ∧ recallAddresses f s.ownSlot = true then s.fillFromRecall f else s

/-- RECALL (R162, R163, R170). -/
def execRecall (src : Byte) (f : RecallFields) (s : State) : Result := receive (srcOk src) (·.takeRecall f) s

/-- LANEREP_RECEIVED (R15, R168, R170). -/
def execLanerepReceived (src : Byte) (payload : List Byte) (s : State) : Result :=
  receive (srcOk src && payload.length == 41) State.noteTaggedFrame s

/-- SLOTREP_RECEIVED (R15, R168, R170). -/
def execSlotrepReceived (src : Byte) (payload : List Byte) (s : State) : Result :=
  receive (srcOk src && slotrepLenOk payload.length) State.noteTaggedFrame s

end Sys2Proof.Machine
end

