-- ==== Sys2Proof/Machine/EyeMonitor.lean ====
section
/-! DEFINITION. POINT_END (R138, R140, R144 to R146, R151): the end of an eye-monitor point, and how the SPOT or SCAN goes on. -/
namespace Sys2Proof.Machine

/-- R144: the setting of point k, from 1, of a step. -/
def ScanStep.point (st : ScanStep) (k : Nat) : EyePoint :=
  match st with
  | .origin => scanOrigin
  | .right => { phase := k, threshold := 0, chop := .normal }
  | .left => { phase := -(k : Int), threshold := 0, chop := .normal }
  | .upA => { phase := 0, threshold := k, chop := .normal }
  | .downA => { phase := 0, threshold := -(k : Int), chop := .normal }
  | .upB => { phase := 0, threshold := k, chop := .swapped }
  | .downB => { phase := 0, threshold := -(k : Int), chop := .swapped }

/-- R144: how far out a point of a step lies; its number within the step. -/
def ScanStep.index (st : ScanStep) (p : EyePoint) : Nat :=
  match st with
  | .origin => 0
  | .right | .left => p.phase.natAbs
  | .upA | .downA | .upB | .downB => p.threshold.natAbs

/-- R144: the last point of a step. -/
def ScanStep.last : ScanStep → Nat
  | .origin => 0
  | .left => 32
  | .right | .upA | .downA | .upB | .downB => 31

/-- R144: the order of the steps. -/
def ScanStep.next : ScanStep → Option ScanStep
  | .origin => some .right
  | .right => some .left
  | .left => some .upA
  | .upA => some .downA
  | .downA => some .upB
  | .upB => some .downB
  | .downB => none

/-- R144: the partial reading a step sets, from the number of open points met; R counts the data sampler's own phase too. -/
def ScanReadings.put (rd : ScanReadings) (st : ScanStep) (opens : Nat) : ScanReadings :=
  match st with
  | .origin => rd
  | .right => { rd with r := some (opens + 1) }
  | .left => { rd with l := some opens }
  | .upA => { rd with upA := some opens }
  | .downA => { rd with downA := some opens }
  | .upB => { rd with upB := some opens }
  | .downB => { rd with downB := some opens }

/-- R145: the figures of a finished scan. A reading that no step has set counts as 0; DOWN_B ends with all six set. -/
def ScanReadings.figures (rd : ScanReadings) : ScanFigures :=
  let ua := rd.upA.getD 0
  let da := rd.downA.getD 0
  let ub := rd.upB.getD 0
  let db := rd.downB.getD 0
  { w := rd.l.getD 0 + rd.r.getD 0
    h := (ua + da + ub + db) / 2 + 1
    o := (((ub : Int) - ua) - ((db : Int) - da)).tdiv 4
    c := (((ua : Int) + ub) - ((da : Int) + db)).tdiv 4 }

/-- What the end of a scan point leads to. -/
inductive ScanMove where
  | point (step : ScanStep) (readings : ScanReadings) (pt : EyePoint)
  | closed
  | complete (figures : ScanFigures)
  deriving DecidableEq, Repr

/-- R144: a step that has ended is followed by the first point of the next, or by the figures. -/
def scanNextStep (st : ScanStep) (rd : ScanReadings) : ScanMove :=
  match st.next with
  | some st' => .point st' rd (st'.point 1)
  | none => .complete rd.figures

/-- R144, R146: the end of point pt of a step, open or closed. -/
def scanMove (st : ScanStep) (rd : ScanReadings) (pt : EyePoint) (isOpen : Bool) : ScanMove :=
  match st with
  | .origin => if isOpen then scanNextStep .origin rd else .closed
  | .right | .left | .upA | .downA | .upB | .downB =>
    let k := st.index pt
    if isOpen then
      if k < st.last then .point st rd (st.point (k + 1)) else scanNextStep st (rd.put st k)
    else scanNextStep st (rd.put st (k - 1))

/-- R138: the next point of a standing grant starts with its counters cleared. -/
def State.startPoint (c : Chan) (pr : Procedure) (pt : EyePoint) (s : State) : State :=
  s.mapEmn fun m => { m with grant := some (grantAt c pr pt) }

/-- R146: a scan settles, with figures only when COMPLETE. -/
def State.settleScan (c : Chan) (o : ScanOutcome) (figs : Option ScanFigures) (s : State) : State :=
  s.mapChan c fun r => { r with scan := { (r.scan.settle o) with figures := figs } }

/-- R140, R151: the SPOT result reaches the receiver, and a grant decision follows. -/
def State.endSpot (c : Chan) (pass : Bool) (s : State) : State :=
  let s1 := s.mapEmn Emn.free
  State.finish s (if pass then s1.lock c else s1.countFailure c).arbitrate

/-- R146, R151: the scan's settling ends the grant, and a grant decision follows. -/
def State.endScan (c : Chan) (o : ScanOutcome) (figs : Option ScanFigures) (s : State) : State :=
  State.finish s ((s.settleScan c o figs).mapEmn Emn.free).arbitrate

/-- R138, R140, R144: the procedure of the grant takes the point's result. -/
def State.takePoint (g : Grant) (isOpen : Bool) (s : State) : State :=
  match g.procedure with
  | .spot none => s.startPoint g.channel (.spot (some isOpen)) spotSecondPoint
  | .spot (some firstOpen) => s.endSpot g.channel (firstOpen && isOpen)
  | .scan st rd =>
    match scanMove st rd g.point isOpen with
    | .point st' rd' pt => s.startPoint g.channel (.scan st' rd') pt
    | .closed => s.endScan g.channel .closed none
    | .complete figs => s.endScan g.channel .complete (some figs)

/-- R138: a point whose bit number has reached 2^P ends, closed if the monitor disagreed on any of its bits; before that no
point ends. -/
def State.endPoint (s : State) : State :=
  match s.emn.grant with
  | none => s
  | some g => if g.bits = 2 ^ s.swc.params.p then s.takePoint g !g.disagreed else s

/-- POINT_END (R138): the point is judged by its compared bits; the operand is not read (notes/assumptions/5.md). -/
def execPointEnd (_ : Bool) (s : State) : Result := .next s.endPoint

/-- R138: what ends at the latest before the next compared bit of channel c: the point of that channel, if its bit number has
reached 2^P (notes/assumptions/5.md). -/
def State.endPointOf (c : Chan) (s : State) : State :=
  match s.emn.grant with
  | none => s
  | some g => if g.channel = c then s.endPoint else s

end Sys2Proof.Machine
end

