-- ==== Sys2Proof/Machine/Counting.lean ====
section
/-! DEFINITION. COMPARED_BIT (R121 to R123, R129, R130, R138): one pattern bit of a lane, at the checker, the stage count and
the eye monitor. -/
namespace Sys2Proof.Machine

/-- R122, R130: a count in COUNTING takes a compared bit; the first bit in error writes the snapshot with its position. -/
def takeComparedBit (st : Stage) (t : Nat) (err : Bool) (r : Channel) : Channel :=
  match r.count? st with
  | some k =>
    if k.state = .counting then
      let r1 := r.mapCount st (StageCount.takeBit t err)
      if err then r1.noteFault st .bitError (k.n + 1) else r1
    else r
  | none => r

/-- R121: the checker predicts the bit from its reference, and the reference moves on by the prediction. -/
def advanceReference (ref : BitVec 31) (r : Channel) : Channel :=
  { r with rx := { r.rx with reference := some (advancePattern ref) } }

/-- R121, R122: the compared bit at the receiver and, in LOCKED, at the count of the current stage. -/
def State.takeLaneBit (c : Chan) (ref : BitVec 31) (received : Bool) (s : State) : State :=
  let err := (s.chan c).rx.polarity.takeBit received != nextPatternBit ref
  let s1 := s.mapChan c (advanceReference ref)
  match s.swc.station with
  | .inStage st =>
    if (s.chan c).rx.state = .locked then s1.mapChan c (takeComparedBit st (s.swc.params.target st) err) else s1
  | .reset | .listen | .barred | .halted _ | .done => s1

/-- R138: the monitor compares its decision with the data decision, for the channel it is granted to. The point bit number goes
up to 2^P and no further (R134): the point is over there. -/
def Emn.takeBit (p : Nat) (c : Chan) (differs : Bool) (m : Emn) : Emn :=
  match m.grant with
  | some g =>
    if g.channel = c ∧ g.bits < 2 ^ p then
      { m with grant := some { g with bits := g.bits + 1, disagreed := g.disagreed || differs } }
    else m
  | none => m

/-- R121, R122, R138: a compared bit of a receiver that follows the lane with a seeded checker. -/
def State.takeCompared (c : Chan) (received monitor : Bool) (s : State) : State :=
  match (s.chan c).rx.reference with
  | some ref =>
    if (s.chan c).rx.state.following then
      State.finish s ((s.takeLaneBit c ref received).mapEmn (Emn.takeBit s.swc.params.p c (received != monitor)))
    else s
  | none => s

/-- COMPARED_BIT (R121, R122, R138): a point of this lane that stands at 2^P bits has ended before this bit, which is then the
first of the next point. -/
def execComparedBit (c : Chan) (received monitor : Bool) (s : State) : Result :=
  .next ((s.endPointOf c).takeCompared c received monitor)

end Sys2Proof.Machine
end

