-- ==== Sys2Proof/Machine/FrameEngine.lean ====
section
/-! DEFINITION. The frame receiver and sender: BUS_IDLE, START_BIT, FRAME_DROP, FRAME_START, FRAME_COMPLETE and
CONTENTION_LOSS (R161, R166, R167, R171 to R173). -/
namespace Sys2Proof.Machine

/-- BUS_IDLE (R167): in WAIT_IDLE a high of 12 bit times takes the receiver to IDLE. In RESET nothing is received (R166). -/
def execBusIdle (s : State) : Result :=
  if s.swc.station ≠ .reset ∧ s.cfe.receiver = .waitIdle then .next (s.mapCfe fun f => { f with receiver := .idle })
  else .next s

/-- START_BIT (R167): in IDLE a falling edge takes the receiver to FRAME. -/
def execStartBit (s : State) : Result :=
  if s.swc.station ≠ .reset ∧ s.cfe.receiver = .idle then .next (s.mapCfe fun f => { f with receiver := .frame })
  else .next s

/-- FRAME_DROP (R167): in FRAME the receiver drops the frame, whatever the cause, and no record changes. The receiver that
follows the station's own frame drops nothing: a wrong sample there is a loss first (R172). -/
def execFrameDrop (cause : DropCause) (s : State) : Result :=
  match cause with
  | .glitch | .framing | .gap | .check =>
    if s.swc.station ≠ .reset ∧ s.cfe.receiver = .frame ∧ s.cfe.onLine = none then
      .next (s.mapCfe fun f => { f with receiver := .waitIdle })
    else .next s

/-- FRAME_START (R161, R171): the head entry's frame is built from the live records and is on the line. -/
def execFrameStart (s : State) : Result :=
  match s.cfe.queue with
  | [] => .next s
  | e :: _ =>
    if s.swc.station ≠ .reset ∧ s.cfe.receiver = .idle ∧ s.cfe.onLine = none then
      .next (s.mapCfe fun f =>
        { f with receiver := .frame, onLine := some { entry := e, bytes := buildFrame s e, dropOnLoss := false } })
    else .next s

/-- R22, R27, R32, R161: what follows the removal of an entry: reports queued after a halted station's PRESENT, DONE from
HALTED once the queue is empty, or the release of MUSTER or REPORT. -/
def State.afterRemoval (e : Entry) (s : State) : State :=
  match s.swc.station with
  | .halted _ =>
    if e = .present then s.queueReports
    else if s.cfe.queue = [] then s.enterDone
    else s
  | .inStage _ => s.tryRelease
  | .reset | .listen | .barred | .done => s

/-- FRAME_COMPLETE (R161, R171): the frame on the line counts as sent and its entry leaves the queue. -/
def execFrameComplete (s : State) : Result :=
  match s.cfe.onLine with
  | none => .next s
  | some lf =>
    .next ((s.mapCfe fun f => { f.removeEntry lf.entry with receiver := .waitIdle, onLine := none }).afterRemoval lf.entry)

/-- The bit time of a frame after its whole SRC byte: lead and SRC are ten bit times each (R166, R173). -/
def afterSrcBit : Nat := 20

/-- R172: the line is released; the entry stays at the head unless it is to go with its frame (R22, R27, R32). -/
def State.loseFrame (lf : LineFrame) (s : State) : State :=
  let s1 := s.mapCfe fun f => { f with onLine := none }
  if lf.dropOnLoss then (s1.mapCfe (·.removeEntry lf.entry)).afterRemoval lf.entry else s1

/-- CONTENTION_LOSS (R172, R173): a loss after the whole SRC byte is a slot conflict. The receiver stays in FRAME with the
winner's frame. A bit time that the frame on the line does not have cannot lose. -/
def execContentionLoss (bit : Nat) (s : State) : Result :=
  match s.cfe.onLine with
  | none => .next s
  | some lf =>
    if bit < (lineBits lf.bytes).length then
      if bit ≥ afterSrcBit then .next (s.loseFrame lf).takeSlotConflict else .next (s.loseFrame lf)
    else .next s

end Sys2Proof.Machine
end

