-- ==== Sys2Proof/Machine/Lanes.lean ====
section
/-! DEFINITION. The lanes: token periods, the phases of a lock attempt, token blocks, clock losses and retraining (chapters 6
and 7). -/
namespace Sys2Proof.Machine

/-- R82: the token of channel c, formed from the station's state. -/
def State.tokenFor (s : State) (c : Chan) (st : Stage) : Token :=
  { slot := BitVec.ofNat 5 s.ownSlot
    channel := BitVec.ofNat 5 c.val
    stage := BitVec.ofNat 3 st.code
    tag := s.swc.params.tag
    slotsMinusOne := BitVec.ofNat 4 ((s.identity.map (·.slots)).getD 1 - 1)
    topology := (s.identity.map (·.topology)) == some .star }

/-- R81, R82: a period starts with the token's codeword; the pattern bits of the period before it have been sent (R80). Its bits
are those of periodBit. -/
def TxRun.startPeriod (codeword : BitVec 32) (t : TxRun) : TxRun :=
  { t with codeword := some codeword
           patternSent := if t.codeword.isSome then t.patternSent + patternBitsPerPeriod else t.patternSent }

/-- TOKEN_PERIOD_START (R81 to R83, R175): for a RUNNING transmitter. -/
def execTokenPeriodStart (c : Chan) (s : State) : Result :=
  match (s.chan c).tx, s.swc.station with
  | .running t, .inStage st =>
    .next (s.mapChan c fun r => { r with tx := .running (t.startPeriod (s.tokenFor c st).encode) })
  | _, _ => .next s

/-- R80, R81, R175: bit k of the token period that channel c is sending; none from an OFF transmitter, before the first period or
past the period's end. -/
def State.laneBit (s : State) (c : Chan) (k : Nat) : Option Bool :=
  match (s.chan c).tx with
  | .off => none
  | .running t => if k < periodLength then t.codeword.map fun w => periodBit w t.patternSent k else none

/-- A change of the receiver state. -/
def Channel.toRx (x : RxState) (r : Channel) : Channel := { r with rx := { r.rx with state := x } }

/-- CLOCK_ACQUIRED (R89). -/
def execClockAcquired (c : Chan) (s : State) : Result :=
  if (s.chan c).rx.state = .acquiring then .next (s.mapChan c (Channel.toRx .searching)) else .next s

/-- ACQUISITION_TIMEOUT (R89, R95). -/
def execAcquisitionTimeout (c : Chan) (s : State) : Result :=
  if (s.chan c).rx.state = .acquiring then .next (s.failAttempt c) else .next s

/-- R90, R91: the search ends in success. -/
def searchRecord (pol : Polarity) (ref : BitVec 31) (r : Channel) : Channel :=
  { r with rx := { r.rx with state := .spotWait, polarity := pol, missCount := 0, reference := some ref
                             invertedFlag := r.rx.invertedFlag || pol == .inverted } }

/-- SEARCH_SUCCESS (R90 to R92, R151): what was received must satisfy the search, or the search goes on. -/
def execSearchSuccess (c : Chan) (find1 find2 : BitVec 32) (seed : BitVec 31) (next : BitVec 1024) (s : State) : Result :=
  if (s.chan c).rx.state = .searching then
    match searchResult find1 find2 seed next with
    | some (pol, ref) =>
      .next ((s.mapChan c (searchRecord pol ref)).mapEmn fun m => { m with spotPending := addSpot c m.spotPending }).arbitrate
    | none => .next s
  else .next s

/-- SEARCH_TIMEOUT (R90, R95). -/
def execSearchTimeout (c : Chan) (s : State) : Result :=
  if (s.chan c).rx.state = .searching then .next (s.failAttempt c) else .next s

/-- R88: the validity of a decoded token. -/
def State.tokenValid (s : State) (t : Token) : Bool :=
  match s.swc.station with
  | .inStage .identify | .inStage .soak | .inStage .stress =>
    1 ≤ t.slot.toNat && t.slot.toNat ≤ 16 && t.tag == s.swc.params.tag &&
      (match s.swc.station with | .inStage st => t.stage.toNat == st.code | _ => false)
  | _ => false

/-- R88, R104 to R106, R115, R130: what a valid token does to the channel's record. -/
def takeTokenRecord (st : Stage) (cls : MappingClass) (src : Source) (r : Channel) : Channel :=
  let r1 := if r.ident.differs src && (st == .soak || st == .stress) then r.noteFault st .foreignToken (r.countingN st) else r
  { r1 with ident := r.ident.takeToken cls src }

/-- R59, R88: a valid token reaches the PLS, unless it names the own slot, and identification. -/
def State.takeValidToken (c : Chan) (id : Identity) (t : Token) (st : Stage) (s : State) : State :=
  let s1 := if t.slot.toNat = id.slot then s else s.offerToken id t
  s1.mapChan c (takeTokenRecord st (s.captureClass c t.source) t.source)

/-- R107: a block event without a valid token. -/
def State.takeNoToken (c : Chan) (s : State) : State := s.mapChan c fun r => { r with ident := r.ident.takeNoToken }

/-- R87: an uncorrectable codeword is handed to the snapshot. -/
def State.noteUncorrectable (c : Chan) (st : Stage) (s : State) : State :=
  s.mapChan c fun r => r.noteFault st .tokenUncorrectable (r.countingN st)

/-- R86 to R88: a block event in LOCKED with its marker seen: the codeword is decoded in the lock polarity. -/
def State.takeBlock (c : Chan) (codeword : BitVec 32) (s : State) : State :=
  match s.swc.station, s.identity with
  | .inStage st, some id =>
    match decodeToken ((s.chan c).rx.polarity.take codeword) with
    | .uncorrectable => (s.noteUncorrectable c st).takeNoToken c
    | .clean t | .corrected t => if s.tokenValid t then s.takeValidToken c id t st else s.takeNoToken c
  | _, _ => s

/-- R86: the marker miss count after a block. -/
def setMiss (n : Nat) (r : Channel) : Channel := { r with rx := { r.rx with missCount := n } }

/-- TOKEN_BLOCK_END (R86 to R88, R92, R94): the marker is checked first; the fourth miss in a row fails the attempt or loses
the lock, and no block event is then handed on. -/
def execTokenBlockEnd (c : Chan) (marker codeword : BitVec 32) (s : State) : Result :=
  let x := (s.chan c).rx
  if x.state.following then
    if markerSeen (x.polarity.take marker) then
      let s1 := s.mapChan c (setMiss 0)
      if x.state = .locked then .next (State.finish s (s1.takeBlock c codeword)) else .next s1
    else
      let s1 := s.mapChan c (setMiss (x.missCount + 1))
      if x.missCount + 1 ≥ missLimit then
        if x.state = .locked then .next (s1.loseLock c) else .next (s1.failAttempt c)
      else if x.state = .locked then .next (State.finish s (s1.takeNoToken c))
      else .next s1
  else .next s

/-- CLOCK_LOSS (R90, R92, R94): from SEARCHING on it ends the attempt; in LOCKED it is a lock loss. A receiver that has no
recovered clock loses none. -/
def execClockLoss (c : Chan) (s : State) : Result :=
  match (s.chan c).rx.state with
  | .searching | .spotWait | .spotRun => .next (s.failAttempt c)
  | .locked => .next (s.loseLock c)
  | .off | .acquiring | .retrainWait | .held | .dead => .next s

/-- RETRAIN_TIMER_EXPIRY (R89, R97, R99): a new attempt, or HELD once the stage limit has expired. -/
def execRetrainTimerExpiry (c : Chan) (s : State) : Result :=
  if (s.chan c).rx.state = .retrainWait ∧ (s.chan c).rx.retrainTimer.isRunning = true then
    .next (s.mapChan c fun r =>
      { r with rx := if s.swc.limitExpired then { r.rx with state := .held, retrainTimer := .stopped }
                     else r.rx.startAttempt })
  else .next s

end Sys2Proof.Machine
end

