-- ==== Sys2Proof/Machine/Lines.lean ====
section
/-! DEFINITION. The stage and stop lines: their edges, the qualified levels of CB_STOP, the barrier, the hold-off, the barrier
limit and the idle second (chapter 3). -/
namespace Sys2Proof.Machine

/-- R36: CB_STOP changes level, and the run of the new level is timed from here (while reset is held it is not timed). -/
def Lif.stopEdge (level : Level) (l : Lif) : Lif :=
  { l with stopLine := level, stopRun := if l.stopRun = .untimed then .untimed else .timing }

/-- CB_STOP_EDGE (R35, R36). A line that shows the level already has no edge, and no line rises while the station pulls it. -/
def execCbStopEdge (level : Level) (s : State) : Result :=
  if level = s.lif.stopLine ∨ (level = .high ∧ s.lif.stopDrive = .pulled) then .next s
  else .next (s.mapLif (Lif.stopEdge level))

/-- R46, R48: what the SWC takes from a qualified low: a stop seen in MUSTER..STRESS while the station does not pull. -/
def State.takeQualifiedLow (s : State) : State :=
  match s.swc.station with
  | .inStage .report | .reset | .listen | .barred | .halted _ | .done => s
  | .inStage _ => if s.stopSeenHolds then s.takeStopSeen else s

/-- STOP_QUALIFIED_LOW (R36, R46 to R48): reported once per low run. -/
def execStopQualifiedLow (s : State) : Result :=
  if s.lif.stopRun = .timing ∧ s.lif.stopLine = .low then .next (s.mapLif Lif.qualifyStop).takeQualifiedLow
  else .next s

/-- STOP_QUALIFIED_HIGH (R36, R46): the qualified level is HIGH; the report has no effect in any state. -/
def execStopQualifiedHigh (s : State) : Result :=
  if s.lif.stopRun = .timing ∧ s.lif.stopLine = .high then .next (s.mapLif Lif.qualifyStop)
  else .next s

/-- R38, R49: CB_STEP changes level. A rise in WAITING starts the barrier run, and any low ends it; the idle-high timer runs
from each rise, but while reset is held (R51). -/
def Lif.stepEdge (inReset : Bool) (level : Level) (l : Lif) : Lif :=
  match level with
  | .high =>
    { l with stepLine := .high, barrierRun := l.phase == .waiting, idleHigh := if inReset then .stopped else .running }
  | .low => { l with stepLine := .low, barrierRun := false, idleHigh := .stopped }

/-- CB_STEP_EDGE (R35, R38, R41, R49). -/
def execCbStepEdge (level : Level) (s : State) : Result :=
  if level = s.lif.stepLine ∨ (level = .high ∧ s.lif.stepDrive = .pulled) then .next s
  else .next (s.mapLif (Lif.stepEdge (s.swc.station == .reset) level))

/-- R39, R40: the barrier is taken into the next stage: the hold-off starts. -/
def Lif.startHoldOff (l : Lif) : Lif :=
  { l with phase := .holdOff, barrierLimit := .stopped, barrierRun := false, holdOff := .running holdOffUs }

/-- BARRIER_TAKEN (R20, R39): in WAITING, with the barrier run running, the station enters the next stage, or DONE. -/
def execBarrierTaken (s : State) : Result :=
  if s.lif.phase = .waiting ∧ s.lif.barrierRun = true ∧ s.swc.released = true then
    match s.swc.station with
    | .inStage st =>
      match st.next with
      | some st' => .next ((s.mapLif Lif.startHoldOff).enterStage st')
      | none => .next s.enterDone
    | .reset | .listen | .barred | .halted _ | .done => .next s
  else .next s

/-- HOLD_OFF_EXPIRY (R37, R40): the station pulls CB_STEP; if the release condition holds already, the pull and the release
are one event and the line sees no pull. -/
def execHoldOffExpiry (s : State) : Result :=
  if s.lif.phase = .holdOff ∧ s.lif.holdOff.isRunning = true then
    if s.releaseReady then .next s.release
    else .next (s.mapLif fun l => { l.pullStep with holdOff := .stopped })
  else .next s

/-- BARRIER_LIMIT_EXPIRY (R20, R27, R29, R42). -/
def execBarrierLimitExpiry (s : State) : Result :=
  if s.lif.phase = .waiting ∧ s.lif.barrierLimit.isRunning = true ∧ s.swc.released = true then
    match s.swc.station with
    | .inStage .report => .next (s.setFlags fun f => { f with barrierStall := true }).enterDone
    | .inStage _ =>
      .next (((s.setFlags fun f => { f with barrierStall := true }).mapLif Lif.pullStop).halt .barrierStall)
    | .reset | .listen | .barred | .halted _ | .done => .next s
  else .next s

/-- IDLE_SECOND (R15, R49): once per high run; in LISTEN it clears the foreign-sweep indication. -/
def execIdleSecond (s : State) : Result :=
  if s.lif.idleHigh = .running then
    let s1 := s.mapLif fun l => { l with idleHigh := .elapsed }
    if s.swc.station = .listen then .next (s1.setForeign false) else .next s1
  else .next s

end Sys2Proof.Machine
end

