-- ==== Sys2Proof/Machine/Probe.lean ====
section
/-! DEFINITION. The static probe: the readings, the current and the end of a round (R66 to R74). -/
namespace Sys2Proof.Machine

/-- R66: the watched pairs of round r are every in-use own pair other than pair r. -/
def State.watched (s : State) (r : Chan) (c : Chan) : Bool := s.inUse c && c != r

/-- PROBE_REFERENCE_READING (R66): the reference reading of every watched pair, once in a round. -/
def execProbeReferenceReading (levels : Vector MicroVolts 32) (s : State) : Result :=
  match s.spu with
  | .probing p =>
    if p.reference = none then
      .next (s.setSpu (.probing { p with reference := some (senseWhere (s.watched p.round) levels) }))
    else .next s
  | .idle | .finished => .next s

/-- PROBE_CURRENT_ON (R66): the current flows into own pair r if it is in use. -/
def execProbeCurrentOn (s : State) : Result :=
  match s.spu with
  | .probing p => .next (s.setSpu (.probing { p with currentOn := s.inUse p.round }))
  | .idle | .finished => .next s

/-- PROBE_SAMPLE (R66): the probed pair, if in use, and every watched pair: together every in-use pair. Four samples belong to
a round, and the reference reading comes before them. -/
def execProbeSample (levels : Vector MicroVolts 32) (s : State) : Result :=
  match s.spu with
  | .probing p =>
    if p.reference.isSome ∧ p.samples.length < 4 then
      .next (s.setSpu (.probing { p with samples := p.samples ++ [senseWhere s.inUse levels] }))
    else .next s
  | .idle | .finished => .next s

/-- PROBE_CURRENT_OFF (R66). -/
def execProbeCurrentOff (s : State) : Result :=
  match s.spu with
  | .probing p => .next (s.setSpu (.probing { p with currentOn := false }))
  | .idle | .finished => .next s

/-- R71: the partner a rise in round r is given. -/
def State.bridgePartner (s : State) (r : Chan) : BridgePartner := if s.inUse r then .own r else .foreign

/-- R73: the classes that bar a transmitter. -/
def StaticClass.bars : StaticClass → Bool
  | .shortLow | .shortHigh => true
  | .terminated | .openPair | .unstable => false

/-- R69, R71, R73: the findings of a round for one in-use pair. -/
def roundFindings (p : ProbeRound) (partner : BridgePartner) (c : Chan) (f : StaticFields) : StaticFields :=
  if c = p.round then
    let k := staticClassOf (p.sampleClasses c)
    { f with cls := some k, barred := f.barred || k.bars }
  else if p.rose c then { f with bridged := true, partner := some partner }
  else f

/-- R72 steps 2 to 4: the findings of the round are written. -/
def State.writeFindings (p : ProbeRound) (s : State) : State :=
  s.mapInUse fun c r => { r with static := roundFindings p (s.bridgePartner p.round) c r.static }

/-- R72 step 5: pair r, if in use, was classed SHORT_HIGH. -/
def State.foundShortHigh (p : ProbeRound) (s : State) : Bool :=
  s.inUse p.round && staticClassOf (p.sampleClasses p.round) == .shortHigh

/-- R72 step 6: the next round, or FINISHED after round 31. -/
def nextRound (r : Chan) : Spu := if h : r.val + 1 < 32 then State.probeRoundAt ⟨r.val + 1, h⟩ else .finished

/-- ROUND_END (R72): the findings are written, the next round starts or the probe finishes, and a SHORT_HIGH is reported
before the end of the probe. A round does not end before its reference reading and its four samples. -/
def execRoundEnd (s : State) : Result :=
  match s.spu with
  | .probing p =>
    if p.reference.isSome ∧ p.samples.length = 4 then
      let s1 := (s.writeFindings p).setSpu (nextRound p.round)
      let s2 := if s.foundShortHigh p then s1.takeShortHigh else s1
      .next s2.tryRelease
    else .next s
  | .idle | .finished => .next s

end Sys2Proof.Machine
end

