-- ==== Sys2Proof/Machine/Reset.lean ====
section
/-! DEFINITION. RESET_BEGIN and RESET_END (R1, R13, R14, R51, R77). -/
namespace Sys2Proof.Machine

/-- RESET_BEGIN (R13, R51, R77, R134, R159, R172): every block takes its reset values in this event. The levels the lines
show are the bus's, and the commands that wait are the outside's. -/
def execResetBegin (s : State) : Result :=
  .next { State.inReset s.lif.stepLine s.lif.stopLine with pending := s.pending }

/-- R36, R49: at reset end the level then on CB_STOP begins to be timed, and the idle-high timer starts if CB_STEP is high. -/
def Lif.endReset (l : Lif) : Lif :=
  { l with stopRun := .timing, idleHigh := if l.stepLine = .high then .running else .stopped }

/-- RESET_END (R1, R3, R14): the straps are sampled once, and the station enters LISTEN, or BARRED. Outside RESET there is no
reset to end. -/
def execResetEnd (straps : Straps) (s : State) : Result :=
  if s.swc.station = .reset then
    let id := Identity.ofStraps straps
    let s1 := { s with identity := some id }
    let s2 := s1.mapSwc fun w => { w with station := if id.barred then .barred else .listen }
    .next (s2.mapLif Lif.endReset).refreshLamps
  else .next s

end Sys2Proof.Machine
end

