-- ==== Sys2Proof/Machine/StageTimers.lean ====
section
/-! DEFINITION. The stage limit, twice the MUSTER limit, the settle delay and the lamp blink (R21, R22, R99, R109, R119, R126,
R149, R158). -/
namespace Sys2Proof.Machine

/-- R99, R109, R126, R149: what the limit of stage st does to one channel. Identification reads the receiver as it stands
before the receiver is taken. -/
def expireRecord (st : Stage) (fromCapture : Source → MappingClass) (silence : MappingClass) (r : Channel) : Channel :=
  { (r.mapCount st StageCount.expire) with
    ident := r.ident.settleOpen fromCapture (if r.rx.state = .locked then .undecoded else silence)
    scan := r.scan.expire
    rx := r.rx.expire }

/-- R21: the limit has expired; in MUSTER the timer runs on (R21, R22). -/
def State.markLimit (s : State) : State :=
  s.mapSwc fun w => { w with limitExpired := true
                             stageTimer := if w.station = .inStage .muster then w.stageTimer else .stopped }

/-- R21, R99, R109, R126, R149: the limit of IDENTIFY, SOAK or STRESS, before the release is looked at. -/
def State.expireItems (st : Stage) (s : State) : State :=
  (s.mapInUse fun c r => expireRecord st (s.captureClass c) (s.silentClass c) r).mapEmn fun _ => Emn.initial

/-- STAGE_LIMIT_EXPIRY (R21, R22, R27). -/
def execStageLimitExpiry (s : State) : Result :=
  if s.swc.stageTimer.isRunning = true ∧ s.swc.limitExpired = false then
    match s.swc.station with
    | .inStage .muster => .next s.markLimit.tryRelease
    | .inStage .report => .next (s.markLimit.mapCfe Cfe.keepOnlyLine).tryRelease
    | .inStage .static => .next s
    | .inStage st => .next (State.finish s (s.markLimit.expireItems st))
    | .reset | .listen | .barred | .halted _ | .done => .next s
  else .next s

/-- MUSTER_DOUBLE_LIMIT (R22): the PRESENT is removed unsent and the station releases; a frame on the line runs to its end,
and its entry then goes either way. -/
def execMusterDoubleLimit (s : State) : Result :=
  if s.swc.station = .inStage .muster ∧ s.swc.stageTimer.isRunning = true ∧ s.swc.limitExpired = true ∧
      Entry.present ∈ s.cfe.queue then
    match s.cfe.onLine with
    | some lf => .next (s.mapCfe fun f => { f with onLine := some { lf with dropOnLoss := true } })
    | none => .next (s.mapCfe (·.removeEntry .present)).tryRelease
  else .next s

/-- R119, R120: the delay's end reaches the current stage's count of a LOCKED channel. -/
def delayRecord (st : Stage) (r : Channel) : Channel := if r.rx.state = .locked then r.mapCount st StageCount.start else r

/-- SETTLE_DELAY_EXPIRY (R119, R120). -/
def execSettleDelayExpiry (s : State) : Result :=
  if s.swc.settleDelay.isRunning then
    let s1 := s.mapSwc fun w => { w with settleDelay := .stopped }
    match s.swc.station with
    | .inStage st => .next (s1.mapInUse fun _ r => delayRecord st r)
    | .reset | .listen | .barred | .halted _ | .done => .next s1
  else .next s

/-- LAMP_BLINK_TOGGLE (R158): the lamp that blinks changes between on and off. -/
def execLampBlinkToggle (s : State) : Result :=
  .next (s.mapSwc fun w => { w with lampOk := w.lampOk.toggle, lampFlt := w.lampFlt.toggle })

end Sys2Proof.Machine
end

