-- ==== Sys2Proof/Machine/Dispatch.lean ====
section
/-! DEFINITION. exec: one arm per command, each one call of its meaning. -/
namespace Sys2Proof.Machine

def exec (i : Instr) (s : State) : Host.Outcome State Fault Refusal :=
  match i with
  | .resetBegin => Sys2Proof.Machine.execResetBegin s
  | .resetEnd straps => Sys2Proof.Machine.execResetEnd straps s
  | .beginFrame src fields => Sys2Proof.Machine.execBegin src fields s
  | .ceaseFrame src tag => Sys2Proof.Machine.execCease src tag s
  | .presentFrame src fields => Sys2Proof.Machine.execPresent src fields s
  | .recallFrame src fields => Sys2Proof.Machine.execRecall src fields s
  | .lanerepReceived src payload => Sys2Proof.Machine.execLanerepReceived src payload s
  | .slotrepReceived src payload => Sys2Proof.Machine.execSlotrepReceived src payload s
  | .busIdle => Sys2Proof.Machine.execBusIdle s
  | .frameDrop cause => Sys2Proof.Machine.execFrameDrop cause s
  | .frameStart => Sys2Proof.Machine.execFrameStart s
  | .frameComplete => Sys2Proof.Machine.execFrameComplete s
  | .contentionLoss bit => Sys2Proof.Machine.execContentionLoss bit s
  | .cbStopEdge level => Sys2Proof.Machine.execCbStopEdge level s
  | .stopQualifiedLow => Sys2Proof.Machine.execStopQualifiedLow s
  | .stopQualifiedHigh => Sys2Proof.Machine.execStopQualifiedHigh s
  | .cbStepEdge level => Sys2Proof.Machine.execCbStepEdge level s
  | .barrierTaken => Sys2Proof.Machine.execBarrierTaken s
  | .holdOffExpiry => Sys2Proof.Machine.execHoldOffExpiry s
  | .barrierLimitExpiry => Sys2Proof.Machine.execBarrierLimitExpiry s
  | .idleSecond => Sys2Proof.Machine.execIdleSecond s
  | .stageLimitExpiry => Sys2Proof.Machine.execStageLimitExpiry s
  | .musterDoubleLimit => Sys2Proof.Machine.execMusterDoubleLimit s
  | .probeCurrentOn => Sys2Proof.Machine.execProbeCurrentOn s
  | .probeCurrentOff => Sys2Proof.Machine.execProbeCurrentOff s
  | .roundEnd => Sys2Proof.Machine.execRoundEnd s
  | .tokenPeriodStart c => Sys2Proof.Machine.execTokenPeriodStart c s
  | .clockAcquired c => Sys2Proof.Machine.execClockAcquired c s
  | .acquisitionTimeout c => Sys2Proof.Machine.execAcquisitionTimeout c s
  | .searchSuccess c find1 find2 seed next => Sys2Proof.Machine.execSearchSuccess c find1 find2 seed next s
  | .searchTimeout c => Sys2Proof.Machine.execSearchTimeout c s
  | .tokenBlockEnd c marker codeword => Sys2Proof.Machine.execTokenBlockEnd c marker codeword s
  | .clockLoss c => Sys2Proof.Machine.execClockLoss c s
  | .retrainTimerExpiry c => Sys2Proof.Machine.execRetrainTimerExpiry c s
  | .settleDelayExpiry => Sys2Proof.Machine.execSettleDelayExpiry s
  | .comparedBit c received monitor => Sys2Proof.Machine.execComparedBit c received monitor s
  | .pointEnd disagreed => Sys2Proof.Machine.execPointEnd disagreed s
  | .lampBlinkToggle => Sys2Proof.Machine.execLampBlinkToggle s
  | .startBit => Sys2Proof.Machine.execStartBit s
  | .probeReferenceReading levels => Sys2Proof.Machine.execProbeReferenceReading levels s
  | .probeSample levels => Sys2Proof.Machine.execProbeSample levels s

end Sys2Proof.Machine
end

