-- ==== Sys2Proof/Safety.lean ====
section
/-! DEFINITION. What every step of the station keeps: the invariants of the lines, the probe, the lanes, the counts, the
arbiter, the Peer List, the Outbound Queue and the lamps, as the spec states or implies them; and the outcomes and payload
layouts that the statements use. -/
namespace Sys2Proof.Machine

/-- The station is in some stage. -/
def StationState.inSomeStage : StationState → Bool
  | .inStage _ => true
  | .reset | .listen | .barred | .halted _ | .done => false

/-- The station is in IDENTIFY, SOAK or STRESS, where lanes run (R28, R85). -/
def StationState.lanesRun : StationState → Bool
  | .inStage .identify | .inStage .soak | .inStage .stress => true
  | .inStage .muster | .inStage .static | .inStage .report | .reset | .listen | .barred | .halted _ | .done => false

/-- The two lines (R35 to R45, R49 to R51) and the probe (R65, R75, R76): each drive, timer and run stands as the station
state says, and the probe works in STATIC alone. -/
structure State.LinesWf (s : State) : Prop where
  identity_iff : s.identity = none ↔ s.swc.station = .reset
  pulls_step : s.lif.stepDrive = .pulled ↔ s.lif.phase = .holding
  phase_off : s.lif.phase = .off ↔ s.swc.station.inSomeStage = false
  waiting_iff : s.swc.station.inSomeStage = true → (s.swc.released = true ↔ s.lif.phase = .waiting)
  step_low : s.lif.stepDrive = .pulled → s.lif.stepLine = .low
  stop_low : s.lif.stopDrive = .pulled → s.lif.stopLine = .low
  pulls_stop : s.lif.stopDrive = .pulled → s.swc.station.inSomeStage = true ∨ ∃ st, s.swc.station = .halted st
  barrier_run : s.lif.barrierRun = true → s.lif.phase = .waiting ∧ s.lif.stepLine = .high
  barrier_limit : s.lif.barrierLimit.isRunning = true ↔ s.lif.phase = .waiting
  hold_off : s.lif.holdOff.isRunning = true ↔ s.lif.phase = .holdOff
  idle_high : s.lif.idleHigh ≠ .stopped → s.lif.stepLine = .high
  stop_run : s.lif.stopRun = .untimed ↔ s.swc.station = .reset
  probe_static : s.spu ≠ .idle → s.swc.station = .inStage .static

/-- R28, R79, R84: the transmitter that the station state asks of channel c. -/
def State.txAsked (s : State) (c : Chan) : Bool := s.swc.station.lanesRun && s.inUse c && !(s.chan c).static.barred

/-- R84: the swing of a RUNNING transmitter. -/
def State.swingAsked (s : State) : Nat := if s.swc.station = .inStage .stress then s.swc.params.swing else fullSwing

/-- R28, R79, R84: every transmitter is as the station state asks. -/
def State.TransmittersWf (s : State) : Prop :=
  ∀ c, match (s.chan c).tx with
    | .off => s.txAsked c = false
    | .running t => s.txAsked c = true ∧ t.swing = s.swingAsked

/-! ### Lanes -/

/-- The receivers (R9, R85, R86, R95, R96): each item stands as the receiver state says, and an unused channel holds the
initial record. -/
structure State.LanesWf (s : State) : Prop where
  unused : ∀ c, s.inUse c = false → s.chan c = Channel.initial
  rests : s.swc.station.lanesRun = false → ∀ c, (s.chan c).rx.state = .off ∨ (s.chan c).rx.state = .dead
  works : s.swc.station.lanesRun = true → ∀ c, s.inUse c = true → (s.chan c).rx.state ≠ .off
  dead_iff : ∀ c, (s.chan c).rx.state = .dead ↔ (s.chan c).rx.retrainCount = s.swc.params.budget + 1
  dead_flag : ∀ c, (s.chan c).rx.deadFlag = true ↔ (s.chan c).rx.state = .dead
  retrain_le : ∀ c, (s.chan c).rx.retrainCount ≤ s.swc.params.budget + 1
  retrain_timer : ∀ c, (s.chan c).rx.retrainTimer.isRunning = true ↔ (s.chan c).rx.state = .retrainWait
  seeded : ∀ c, (s.chan c).rx.reference.isSome = (s.chan c).rx.state.following
  miss_le : ∀ c, (s.chan c).rx.missCount ≤ missLimit
  miss_lt : ∀ c, (s.chan c).rx.state.following = true → (s.chan c).rx.missCount < missLimit

/-! ### Eye monitor -/

/-- The channel and kind of the standing grant. -/
def State.spotGranted (s : State) (c : Chan) : Prop := ∃ g first, s.emn.grant = some g ∧ g.channel = c ∧ g.procedure = .spot first
def State.scanGranted (s : State) (c : Chan) : Prop :=
  ∃ g st rd, s.emn.grant = some g ∧ g.channel = c ∧ g.procedure = .scan st rd

/-- The arbiter (R134, R135, R138, R151, R152): the requests and the grant are exactly what the channels ask, none twice, the skip
count and the point bit number stay in their ranges, and a FREE monitor has nothing to grant. -/
structure State.MonitorWf (s : State) : Prop where
  spot_pending : ∀ c, c ∈ s.emn.spotPending ↔ (s.chan c).rx.state = .spotWait
  spot_granted : ∀ c, s.spotGranted c ↔ (s.chan c).rx.state = .spotRun
  scan_pending : ∀ c, c ∈ s.emn.scanQueue ↔ (s.chan c).scan.state = .pending
  scan_granted : ∀ c, s.scanGranted c ↔ (s.chan c).scan.state = .granted
  scan_locked : ∀ c, (s.chan c).scan.state = .pending ∨ (s.chan c).scan.state = .granted → (s.chan c).rx.state = .locked
  scan_stage : ∀ c, (s.chan c).scan.state = .awaitLock ∨ (s.chan c).scan.state = .pending ∨ (s.chan c).scan.state = .granted →
    s.swc.station = .inStage .stress
  scan_idle : ∀ st c, s.swc.station = .inStage st → st ≠ .stress → st ≠ .report → (s.chan c).scan.state = .idle
  spot_order : s.emn.spotPending.Pairwise (· < ·)
  scan_once : s.emn.scanQueue.Nodup
  skip_le : s.emn.skip ≤ skipLimit
  skip_zero : s.emn.scanQueue = [] → s.emn.skip = 0
  free_idle : s.emn.grant = none → s.emn.spotPending = [] ∧ s.emn.scanQueue = []
  bits_le : ∀ g, s.emn.grant = some g → g.bits ≤ 2 ^ s.swc.params.p

/-! ### Records -/

/-- R122, R133: a count stands as its state and outcome say, with target exponent t. -/
def StageCount.Wf (t : Nat) (k : StageCount) : Prop :=
  match k.state, k.outcome with
  | .idle, none | .waiting, none => k.n = 0 ∧ k.e = 0
  | .counting, none => k.e < failErrors ∧ k.n < countThreshold t k.e
  | .settled, some .met => k.e < failErrors ∧ k.n = countThreshold t k.e
  | .settled, some .failed => k.e = failErrors ∧ k.n ≤ countThreshold t 15
  | .settled, some .lost | .settled, some .undersampled | .settled, some .halted =>
    k.e < failErrors ∧ k.n < countThreshold t k.e
  | .settled, some .notRun | .settled, some .untested => k.n = 0 ∧ k.e = 0
  | _, _ => False

/-- R118, R122: both counts of every channel, IDLE until their stage is entered. -/
structure State.CountsWf (s : State) : Prop where
  soak : ∀ c, (s.chan c).soak.Wf s.swc.params.tSoak
  stress : ∀ c, (s.chan c).stress.Wf s.swc.params.tStress
  soak_idle : ∀ st c, s.swc.station = .inStage st → st.code < 4 → (s.chan c).soak.state = .idle
  stress_idle : ∀ st c, s.swc.station = .inStage st → st.code < 5 → (s.chan c).stress.state = .idle

/-- R102 to R109: the identification items stand as their state says. -/
structure Ident.Wf (i : Ident) : Prop where
  settled_iff : i.cls.isSome = true ↔ i.state = .settled
  idle_initial : i.state = .idle → i = Ident.initial
  no_match : i.heard = none → i.matchCount = 0
  match_le : i.matchCount ≤ matchTarget
  match_open : i.state = .opened → i.matchCount < matchTarget
  run_le : i.undecodedRun ≤ undecodedTarget
  run_open : i.state = .opened → i.heard = none → i.undecodedRun < undecodedTarget

/-- R102 to R109 for every channel, IDLE until IDENTIFY is entered. -/
structure State.IdentsWf (s : State) : Prop where
  items : ∀ c, (s.chan c).ident.Wf
  idle : ∀ st c, s.swc.station = .inStage st → st.code < 3 → (s.chan c).ident.state = .idle

/-- The stages whose items are settled at this point of the sweep: those left behind, those of the stage released, and all
of them once the station reports (R20, R24 to R27, R31). -/
def State.itemsDone (s : State) (st : Stage) : Bool :=
  match s.swc.station with
  | .inStage cur => decide (st.code < cur.code) || (s.swc.released && cur == st)
  | .halted _ | .done => true
  | .reset | .listen | .barred => false

/-- R127, R133, R150: what a station has left behind or released is settled, on every in-use channel. -/
structure State.SettledWf (s : State) : Prop where
  ident : s.itemsDone .identify = true → ∀ c, s.inUse c = true → (s.chan c).ident.state = .settled
  soak : s.itemsDone .soak = true → ∀ c, s.inUse c = true → (s.chan c).soak.state = .settled
  stress : s.itemsDone .stress = true →
    ∀ c, s.inUse c = true → (s.chan c).stress.state = .settled ∧ (s.chan c).scan.state = .settled

/-! ### Peer List, Outbound Queue, control state and lamps -/

/-- R52: ascending slots from 1 to 16, never the own slot, each with the wiring rule's expected count. -/
structure State.PeersWf (s : State) : Prop where
  ascending : s.peers.Pairwise fun a b => a.slot < b.slot
  range : ∀ e ∈ s.peers, 1 ≤ e.slot ∧ e.slot ≤ 16
  not_own : ∀ e ∈ s.peers, e.slot ≠ s.ownSlot
  expected : ∀ e ∈ s.peers, e.expected = s.expectedCount e.slot
  in_reset : s.identity = none → s.peers = []

/-- R159, R160, R171: no entry twice, a LANEREP of an in-use channel alone, a PRESENT by itself, and the frame on the line is the
head's, with the receiver inside it. -/
structure State.QueueWf (s : State) : Prop where
  once : s.cfe.queue.Nodup
  in_use : ∀ c, Entry.lanerep c ∈ s.cfe.queue → s.inUse c = true
  present_alone : Entry.present ∈ s.cfe.queue → s.cfe.queue = [.present]
  muster_only : s.swc.station = .inStage .muster → s.cfe.queue = [] ∨ s.cfe.queue = [.present]
  present_when : Entry.present ∈ s.cfe.queue →
    (s.swc.station = .inStage .muster ∧ s.swc.released = false) ∨
      ∃ lf, s.swc.station = .halted .muster ∧ s.cfe.onLine = some lf ∧ lf.dropOnLoss = true
  empty_when : (s.swc.station = .reset ∨ s.swc.station = .listen ∨
      ∃ st, s.swc.station = .inStage st ∧ (s.swc.released = true ∨ st ≠ .muster ∧ st ≠ .report)) → s.cfe.queue = []
  reports_left : (∃ st, s.swc.station = .halted st) → s.cfe.queue ≠ []
  on_line : ∀ lf, s.cfe.onLine = some lf → s.cfe.queue.head? = some lf.entry
  follows_own : s.cfe.onLine ≠ none → s.cfe.receiver = .frame

/-- R19: every stored parameter is in its range. -/
structure Params.Wf (q : Params) : Prop where
  tSoak : 20 ≤ q.tSoak ∧ q.tSoak ≤ 40
  tStress : 20 ≤ q.tStress ∧ q.tStress ≤ 40
  p : 16 ≤ q.p ∧ q.p ≤ 28
  swing : 4 ≤ q.swing ∧ q.swing ≤ 15
  wMin : q.wMin ≤ 64
  hMin : q.hMin ≤ 63
  budget : 1 ≤ q.budget ∧ q.budget ≤ 15
  retrain : 1 ≤ q.retrainMs ∧ q.retrainMs ≤ 255
  muster : 1 ≤ q.musterMs ∧ q.musterMs ≤ 65535
  identify : 1 ≤ q.identifyMs ∧ q.identifyMs ≤ 65535
  soak : 1 ≤ q.soakMs ∧ q.soakMs ≤ 65535
  stress : 1 ≤ q.stressMs ∧ q.stressMs ≤ 65535
  report : 1 ≤ q.reportMs ∧ q.reportMs ≤ 65535
  barrier : 1 ≤ q.barrierMs ∧ q.barrierMs ≤ 65535

/-- R15, R19, R30: the parameters in range, a halt reason exactly from a halt on, and the foreign-sweep indication in LISTEN
alone. -/
structure State.ControlWf (s : State) : Prop where
  params : s.swc.params.Wf
  halted : ∀ st, s.swc.station = .halted st → s.swc.haltReason ≠ .none
  not_halted : s.swc.station ≠ .done → (∀ st, s.swc.station ≠ .halted st) → s.swc.haltReason = .none
  foreign : s.swc.foreignSweep = true → s.swc.station = .listen

/-- R158: both lamps show what the station state, the foreign-sweep indication and the slot verdict call for. -/
def State.LampsWf (s : State) : Prop := s.swc.lampOk.pattern = s.lampPatterns.1 ∧ s.swc.lampFlt.pattern = s.lampPatterns.2

/-- R1, R3, R14: the identity held is one that straps give, and BARRED is the state of a barred station alone. -/
structure State.IdentityWf (s : State) : Prop where
  of_straps : ∀ id, s.identity = some id → ∃ st, id = Identity.ofStraps st
  barred_iff : s.swc.station = .barred ↔ s.barred = true

/-- R20, R37: a station that holds CB_STEP low has work of its stage left to do. -/
def State.HoldingWf (s : State) : Prop := s.lif.phase = .holding → s.releaseReady = false

/-- All of them. -/
structure State.Wf (s : State) : Prop where
  identity : s.IdentityWf
  holding : s.HoldingWf
  lines : s.LinesWf
  transmitters : s.TransmittersWf
  lanes : s.LanesWf
  monitor : s.MonitorWf
  counts : s.CountsWf
  idents : s.IdentsWf
  settled : s.SettledWf
  peers : s.PeersWf
  queue : s.QueueWf
  control : s.ControlWf
  lamps : s.LampsWf

/-! ### The shared outcomes of events, written out for the statements -/

/-- R167: what the end of a received frame leaves in the receiver; it goes on following a frame of the station's own. -/
def State.afterFrame (s : State) : State :=
  { s with cfe := { s.cfe with receiver := if s.cfe.onLine = none then .waitIdle else s.cfe.receiver } }

/-- R44: the station pulls CB_STOP, and the line is low from this event. -/
def State.stopPulled (s : State) : State :=
  { s with lif := { s.lif with stopDrive := .pulled
                               stopLine := .low
                               stopRun := if s.lif.stopLine = .high then .timing else s.lif.stopRun } }

/-- R20, R38: the station releases its stage. -/
def State.stageReleased (s : State) : State :=
  { s with swc := { s.swc with released := true, stageTimer := .stopped }
           lif := { s.lif with stepDrive := .released, phase := .waiting, holdOff := .stopped
                               barrierLimit := .running (1000 * s.swc.params.barrierMs)
                               barrierRun := s.lif.stepLine == .high } }

/-- R158: the patterns of LAMP_OK and LAMP_FLT for a slot verdict in DONE. -/
def SlotVerdict.lamps : SlotVerdict → LampPattern × LampPattern
  | .pass => (.steady, .off)
  | .fail | .barred => (.off, .steady)
  | .incomplete => (.off, .blink .oneHz)

/-- R34, R45, R50, R158: the station enters DONE: both lines released, the verdict on the lamps. -/
def State.sweepEnded (s : State) : State :=
  { s with swc := { s.swc with station := .done, stageTimer := .stopped
                               lampOk := s.swc.lampOk.take s.slotVerdict.lamps.1
                               lampFlt := s.swc.lampFlt.take s.slotVerdict.lamps.2 }
           lif := { s.lif with stepDrive := .released, stopDrive := .released, phase := .off, barrierLimit := .stopped
                               holdOff := .stopped, barrierRun := false } }

/-- R27, R32, R160: a LANEREP for each in-use channel in ascending order, then one SLOTREP. -/
def State.reports (s : State) : List Entry :=
  (((List.finRange 32).filter fun c => s.inUse c).map .lanerep) ++ [.slotrep]

/-- R31, R101, R114, R127, R150: what a halt leaves of one channel's record. -/
structure Channel.HaltedFrom (r r' : Channel) : Prop where
  static : r'.static = r.static
  tx : r'.tx = .off
  rx_dead : r.rx.state = .dead → r'.rx = r.rx
  rx_other : r.rx.state ≠ .dead → r'.rx = { r.rx with state := .off, retrainTimer := .stopped, reference := none }
  ident_settled : r.ident.state = .settled → r'.ident = r.ident
  ident_open : r.ident.state ≠ .settled → r'.ident = { r.ident with state := .settled, cls := some .untested }
  soak_settled : r.soak.state = .settled → r'.soak = r.soak
  soak_idle : r.soak.state = .idle → r'.soak = { r.soak with state := .settled, outcome := some .untested }
  soak_open : r.soak.state = .waiting ∨ r.soak.state = .counting →
    r'.soak = { r.soak with state := .settled, outcome := some .halted }
  stress_settled : r.stress.state = .settled → r'.stress = r.stress
  stress_idle : r.stress.state = .idle → r'.stress = { r.stress with state := .settled, outcome := some .untested }
  stress_open : r.stress.state = .waiting ∨ r.stress.state = .counting →
    r'.stress = { r.stress with state := .settled, outcome := some .halted }
  snapshot : r'.snapshot = r.snapshot
  scan_settled : r.scan.state = .settled → r'.scan = r.scan
  scan_idle : r.scan.state = .idle → r'.scan = { r.scan with state := .settled, outcome := some .untested }
  scan_open : r.scan.state = .awaitLock ∨ r.scan.state = .pending ∨ r.scan.state = .granted →
    r'.scan = { r.scan with state := .settled, outcome := some .cut }

/-- R30 to R32, R43, R76: t is s after a halt taken in stage st with reason why. -/
structure State.HaltedFrom (why : HaltReason) (st : Stage) (s t : State) : Prop where
  identity : t.identity = s.identity
  swc : t.swc = { s.swc with station := .halted st, stageTimer := .stopped, settleDelay := .stopped
                             haltReason := if s.swc.haltReason = .none then why else s.swc.haltReason }
  lif : t.lif = { s.lif with stepDrive := .released, phase := .off, barrierLimit := .stopped, holdOff := .stopped
                             barrierRun := false }
  spu : t.spu = .idle
  used : ∀ c, s.inUse c = true → (s.chan c).HaltedFrom (t.chan c)
  unused : ∀ c, s.inUse c = false → t.chan c = s.chan c
  emn : t.emn = { grant := none, spotPending := [], scanQueue := [], skip := 0 }
  peers : t.peers = s.peers
  pending : t.pending = s.pending
  queue_free : s.cfe.onLine = none → s.cfe.queue = [] ∨ s.cfe.queue = [.present] →
    t.cfe = { s.cfe with queue := s.reports }
  queue_line : ∀ lf, s.cfe.onLine = some lf → lf.entry = .present →
    t.cfe = { s.cfe with onLine := some { lf with dropOnLoss := true } }

/-- R19: v is x brought into lo..hi. -/
def StoredIn (lo hi x v : Nat) : Prop :=
  (x < lo → v = lo) ∧ (hi < x → v = hi) ∧ (lo ≤ x → x ≤ hi → v = x)

/-- A slot conflict as s, in which it is found, takes it by the station state (R16, R29, R30, R44): t is the state after. -/
def State.ConflictTaken (s t : State) : Prop :=
  let f := { s with swc := { s.swc with flags := { s.swc.flags with slotConflict := true } } }
  match s.swc.station with
  | .inStage .report | .barred => t = f
  | .done => t = { f with swc := { f.swc with lampOk := s.swc.lampOk.take f.slotVerdict.lamps.1
                                              lampFlt := s.swc.lampFlt.take f.slotVerdict.lamps.2 } }
  | .halted _ => t = f.stopPulled
  | .inStage st => (s.stopAll = false → t = f.stopPulled) ∧ (s.stopAll = true → f.stopPulled.HaltedFrom .slotConflict st t)
  | .reset | .listen => t = s

/-- The six frames of R168 as they are received. -/
def isFrame : Instr → Bool
  | .beginFrame _ _ | .ceaseFrame _ _ | .presentFrame _ _ | .recallFrame _ _ => true
  | .lanerepReceived _ _ | .slotrepReceived _ _ => true
  | _ => false

/-- The four frames that tell a station in LISTEN of a sweep it has not joined (R15). -/
def isTagged : Instr → Bool
  | .ceaseFrame _ _ | .presentFrame _ _ | .lanerepReceived _ _ | .slotrepReceived _ _ => true
  | _ => false

/-- R17 to R19, R22, R37, R53, R158: the state in which an accepted BEGIN leaves the station. -/
def State.sweepOpened (f : BeginFields) (s : State) : State :=
  { identity := s.identity
    swc := { station := .inStage .muster
             params := Params.ofBegin f
             stageTimer := .running (1000 * (Params.ofBegin f).musterMs)
             limitExpired := false
             released := false
             haltReason := .none
             flags := { slotConflict := false, stopSeen := false, unannouncedPeer := false, barrierStall := false }
             foreignSweep := false
             settleDelay := .stopped
             lampOk := s.swc.lampOk.take (.blink .twoHz)
             lampFlt := .off }
    lif := { s.lif with stepDrive := .pulled, phase := .holding, stepLine := .low, idleHigh := .stopped
                        barrierRun := false }
    spu := .idle
    channels := Vector.replicate 32 Channel.initial
    emn := { grant := none, spotPending := [], scanQueue := [], skip := 0 }
    peers := []
    cfe := { receiver := .waitIdle, queue := [.present], onLine := none }
    pending := s.pending }

/-- R20, R39, R40: the barrier is taken into stage st, whose limit timer starts as limit. -/
def State.entered (st : Stage) (limit : Timer) (s : State) : State :=
  { s with swc := { s.swc with station := .inStage st, released := false, limitExpired := false, stageTimer := limit }
           lif := { s.lif with phase := .holdOff, barrierLimit := .stopped, barrierRun := false, holdOff := .running 40 } }

/-- t differs from s in the records of in-use channels alone. -/
def State.OnlyUsed (s t : State) : Prop :=
  t = { s with channels := t.channels } ∧ ∀ c, s.inUse c = false → t.chan c = s.chan c

/-- t is s with r as the record of channel c. -/
def State.OnlyChan (c : Chan) (r : Channel) (s t : State) : Prop :=
  t = { s with channels := t.channels } ∧ t.chan c = r ∧ ∀ d, d ≠ c → t.chan d = s.chan d

/-- R129: the bit number of the count in COUNTING in stage st, or 0. -/
def Channel.bitNumber (st : Stage) (r : Channel) : Nat :=
  if st = .soak ∧ r.soak.state = .counting then r.soak.n
  else if st = .stress ∧ r.stress.state = .counting then r.stress.n
  else 0

/-- R95, R96: the receiver after a failed attempt or a lock loss: the retrain period is waited out, or the channel is DEAD. -/
def Rx.failedOnce (p : Params) (x : Rx) : Rx :=
  if x.retrainCount < p.budget then
    { x with state := .retrainWait, retrainCount := x.retrainCount + 1, reference := none
             retrainTimer := .running (1000 * p.retrainMs) }
  else
    { x with state := .dead, deadFlag := true, retrainCount := x.retrainCount + 1, reference := none
             retrainTimer := .stopped }

/-- R107: the identification items after a block event that carries no valid token. -/
def Ident.withoutToken (i : Ident) : Ident :=
  if i.state = .opened then
    if i.undecodedRun + 1 < 64 then { i with undecodedRun := i.undecodedRun + 1 }
    else if i.heard = none then { i with undecodedRun := 64, state := .settled, cls := some .undecoded }
    else { i with undecodedRun := 64 }
  else i

/-- R96, R108, R124, R148: what "dead" in stage st leaves of the items of channel c of station s: r before, r' after. -/
structure State.DiedIn (st : Stage) (c : Chan) (s : State) (r r' : Channel) : Prop where
  static : r'.static = r.static
  tx : r'.tx = r.tx
  rx : r'.rx = r.rx
  snapshot : r'.snapshot = r.snapshot
  ident_open : r.ident.state = .opened → r'.ident = { r.ident with
    state := .settled
    cls := some (match r.ident.heard with
      | some h => s.captureClass c h
      | none => s.silentClass c) }
  ident_other : r.ident.state ≠ .opened → r'.ident = r.ident
  soak_waiting : st = .soak → r.soak.state = .waiting →
    r'.soak = { r.soak with state := .settled, outcome := some .notRun }
  soak_other : ¬(st = .soak ∧ r.soak.state = .waiting) → r'.soak = r.soak
  stress_waiting : st = .stress → r.stress.state = .waiting →
    r'.stress = { r.stress with state := .settled, outcome := some .notRun }
  stress_other : ¬(st = .stress ∧ r.stress.state = .waiting) → r'.stress = r.stress
  scan_open : r.scan.state = .awaitLock ∨ r.scan.state = .pending ∨ r.scan.state = .granted →
    r'.scan = { r.scan with state := .settled, outcome := some (if r.scan.attempts = 0 then .notRun else .aborted) }
  scan_other : r.scan.state = .idle ∨ r.scan.state = .settled → r'.scan = r.scan

/-- R95, R96: the record of channel c after its receiver failed once, r being the record but for that: the receiver waits, or the
channel is DEAD and its items of stage st settle. -/
def State.FailedIn (st : Stage) (c : Chan) (s : State) (r r' : Channel) : Prop :=
  (r.rx.retrainCount < s.swc.params.budget → r' = { r with rx := r.rx.failedOnce s.swc.params }) ∧
  (s.swc.params.budget ≤ r.rx.retrainCount → s.DiedIn st c { r with rx := r.rx.failedOnce s.swc.params } r')

/-- The grant of the eye monitor ends if it is channel c's (R141, R147). -/
def Emn.withoutGrantOf (c : Chan) (m : Emn) : Option Grant :=
  match m.grant with
  | some g => if g.channel = c then none else some g
  | none => none

/-- t is s with r as the record of channel c and m as the eye monitor. -/
def State.ChanAndMonitor (c : Chan) (r : Channel) (m : Emn) (s t : State) : Prop :=
  t = { s with channels := t.channels, emn := m } ∧ t.chan c = r ∧ ∀ d, d ≠ c → t.chan d = s.chan d

/-! ### The report payloads, byte by byte -/

/-- R133, R177: the eight bytes of a count from offset k on: the outcome's code, e, and n most significant byte first. -/
structure StageCount.LaidAt (n : StageCount) (k : Nat) (p : List Byte) : Prop where
  outcome : ∀ x ∈ [(CountOutcome.met, 0x00#8), (.failed, 0x01#8), (.lost, 0x02#8), (.undersampled, 0x03#8), (.notRun, 0x04#8),
    (.halted, 0x05#8), (.untested, 0x06#8)], n.outcome = some x.1 → p[k]? = some x.2
  errors : p[k + 1]? = some (BitVec.ofNat 8 n.e)
  bits : ∀ i, i < 6 → p[k + 2 + i]? = some (BitVec.ofNat 8 (n.n / 256 ^ (5 - i)))

/-- R133, R164, R177: p is the LANEREP payload of channel c, each field at its offset and in its code, an absent one in bytes of
0xFF. -/
structure State.LanerepLaid (s : State) (c : Chan) (p : List Byte) : Prop where
  length : p.length = 41
  channel : p[0]? = some (BitVec.ofNat 8 c.val)
  tag : p[1]? = some s.swc.params.tag
  expected : ∀ src, s.expectedSource c = some src →
    p[2]? = some (BitVec.ofNat 8 src.slot) ∧ p[3]? = some (BitVec.ofNat 8 src.channel)
  heard : ∀ src, (s.chan c).ident.heard = some src →
    p[4]? = some (BitVec.ofNat 8 src.slot) ∧ p[5]? = some (BitVec.ofNat 8 src.channel)
  heard_absent : (s.chan c).ident.heard = none → p[4]? = some 0xFF#8 ∧ p[5]? = some 0xFF#8
  cls : ∀ x ∈ [(MappingClass.match_, 0x00#8), (.laneSwap, 0x01#8), (.foreignPort, 0x02#8), (.wrongPeer, 0x03#8),
    (.loopback, 0x04#8), (.unstable, 0x05#8), (.undecoded, 0x06#8), (.silent, 0x07#8), (.noPeer, 0x08#8), (.untested, 0x09#8)],
    (s.chan c).ident.cls = some x.1 → p[6]? = some x.2
  flags : ∃ f, p[7]? = some f ∧ f.getLsbD 0 = (s.chan c).rx.invertedFlag ∧ f.getLsbD 1 = (s.chan c).ident.duplicate ∧
    f.getLsbD 2 = (s.chan c).ident.sourceChanged ∧
    (f.getLsbD 3 = true ↔ ∃ src e, (s.chan c).ident.heard = some src ∧ s.peer src.slot = some e ∧ e.announced = false) ∧
    f.getLsbD 4 = (s.chan c).rx.deadFlag ∧ f.getLsbD 5 = (s.chan c).static.bridged ∧ f.getLsbD 6 = false ∧ f.getLsbD 7 = false
  static : ∀ x ∈ [(some StaticClass.terminated, 0x00#8), (some .openPair, 0x01#8), (some .shortLow, 0x02#8),
    (some .shortHigh, 0x03#8), (some .unstable, 0x04#8), (none, 0xFF#8)], (s.chan c).static.cls = x.1 → p[8]? = some x.2
  partner_own : ∀ d, (s.chan c).static.partner = some (.own d) → p[9]? = some (BitVec.ofNat 8 d.val)
  partner_foreign : (s.chan c).static.partner = some .foreign → p[9]? = some 0x20#8
  partner_absent : (s.chan c).static.partner = none → p[9]? = some 0xFF#8
  retrains : p[10]? = some (BitVec.ofNat 8 (s.chan c).rx.retrainCount)
  soak : (s.chan c).soak.LaidAt 11 p
  stress : (s.chan c).stress.LaidAt 19 p
  scan : ∀ x ∈ [(ScanOutcome.complete, 0x00#8), (.closed, 0x01#8), (.aborted, 0x02#8), (.cut, 0x03#8), (.notRun, 0x04#8),
    (.untested, 0x05#8)], (s.chan c).scan.outcome = some x.1 → p[27]? = some x.2
  size : ∀ f, (s.chan c).scan.figures = some f →
    p[28]? = some (BitVec.ofNat 8 f.w) ∧ p[29]? = some (BitVec.ofNat 8 f.h)
  offset : ∀ f, (s.chan c).scan.figures = some f → -15 ≤ f.o → f.o ≤ 15 → ∃ b, p[30]? = some b ∧ (b.toNat : Int) = f.o + 16
  centre : ∀ f, (s.chan c).scan.figures = some f → -15 ≤ f.c → f.c ≤ 15 → ∃ b, p[31]? = some b ∧ (b.toNat : Int) = f.c + 16
  figures_absent : (s.chan c).scan.figures = none → ∀ i, i < 4 → p[28 + i]? = some 0xFF#8
  snapshot_stage : ∀ sn, (s.chan c).snapshot = some sn → p[32]? = some (BitVec.ofNat 8 sn.stage.code)
  snapshot_kind : ∀ sn, (s.chan c).snapshot = some sn → ∀ x ∈ [(FaultKind.tokenUncorrectable, 0x00#8), (.lockLost, 0x01#8),
    (.bitError, 0x02#8), (.foreignToken, 0x03#8)], sn.kind = x.1 → p[33]? = some x.2
  snapshot_bit : ∀ sn, (s.chan c).snapshot = some sn → ∀ i, i < 6 → p[34 + i]? = some (BitVec.ofNat 8 (sn.n / 256 ^ (5 - i)))
  snapshot_absent : (s.chan c).snapshot = none → ∀ i, i < 8 → p[32 + i]? = some 0xFF#8
  verdict : ∀ x ∈ [(ChannelVerdict.pass, 0x00#8), (.fail, 0x01#8), (.untested, 0x02#8), (.excused, 0x03#8)],
    (s.chan c).verdict s.swc.params = x.1 → p[40]? = some x.2

/-- R64, R177: the two bytes of peer entry e from offset k on. -/
structure PeerEntry.LaidAt (e : PeerEntry) (k : Nat) (p : List Byte) : Prop where
  slot : p[k]? = some (BitVec.ofNat 8 e.slot)
  flags : ∃ f, p[k + 1]? = some f ∧ f.getLsbD 0 = e.announced ∧ f.getLsbD 1 = e.mismatch ∧
    (f.getLsbD 2 = true ↔ 0 < e.heard) ∧ (f.getLsbD 3 = true ↔ 0 < e.expected ∧ e.matched = e.expected) ∧
    ∀ i, 4 ≤ i → f.getLsbD i = false

/-- The number of in-use channels whose verdict is v (R165). -/
def State.channelsJudged (s : State) (v : ChannelVerdict) : Nat :=
  ((List.finRange 32).filter fun c => s.inUse c && (s.chan c).verdict s.swc.params == v).length

/-- R64, R165, R177: p is the SLOTREP payload of station s with identity id. -/
structure State.SlotrepLaid (s : State) (id : Identity) (p : List Byte) : Prop where
  length : p.length = 11 + 2 * s.peers.length
  slot : p[0]? = some (BitVec.ofNat 8 id.slot)
  tag : p[1]? = some s.swc.params.tag
  verdict : ∀ x ∈ [(SlotVerdict.pass, 0x00#8), (.fail, 0x01#8), (.incomplete, 0x02#8), (.barred, 0x03#8)],
    s.slotVerdict = x.1 → p[2]? = some x.2
  halt : ∀ x ∈ [(HaltReason.none, 0x00#8), (.stopSeen, 0x01#8), (.shortHigh, 0x02#8), (.slotConflict, 0x03#8),
    (.barrierStall, 0x04#8), (.ceased, 0x05#8)], s.swc.haltReason = x.1 → p[3]? = some x.2
  flags : ∃ f, p[4]? = some f ∧ f.getLsbD 0 = s.swc.flags.slotConflict ∧ f.getLsbD 1 = s.swc.flags.stopSeen ∧
    f.getLsbD 2 = s.swc.flags.unannouncedPeer ∧ f.getLsbD 3 = s.swc.flags.barrierStall ∧ ∀ i, 4 ≤ i → f.getLsbD i = false
  passed : p[5]? = some (BitVec.ofNat 8 (s.channelsJudged .pass))
  failed : p[6]? = some (BitVec.ofNat 8 (s.channelsJudged .fail))
  excused : p[7]? = some (BitVec.ofNat 8 (s.channelsJudged .excused))
  untested : p[8]? = some (BitVec.ofNat 8 (s.channelsJudged .untested))
  truncated : p[9]? = some (BitVec.ofNat 8 id.truncatedPorts)
  peer_count : p[10]? = some (BitVec.ofNat 8 s.peers.length)
  peers : ∀ i (e : PeerEntry), s.peers[i]? = some e → e.LaidAt (11 + 2 * i) p

end Sys2Proof.Machine
end

