-- ==== Sys2Proof/Certificates/Slice0/Obligations.lean ====
section
/-! DEFINITION. The statements for the provers: what each command leaves, by the rules of the spec, and what every command keeps.
Each statement gives the whole next state, so it says what the command leaves unchanged too. -/
section
open Sys2Proof Sys2Proof.Machine

/-! ### The queue, reset and the straps -/

/-- A step takes the command at the front of the queue; with no command waiting it idles (the model's choice,
notes/assumptions/1.md). -/
def Obligations.StepRunsFrontCommand : Prop :=
  (∀ (c : Instr) (rest : List Instr) (s : State), step { s with pending := c :: rest } = exec c { s with pending := rest }) ∧
  ∀ s : State, s.pending = [] → step s = .next s

/-- Every command leaves the part in a next state, takes nothing from the queue of waiting commands, and leaves the identity,
but for the start of a reset and the end of one (R2). -/
def Obligations.IdentityHeldBetweenResets : Prop :=
  ∀ (c : Instr) (s : State), ∃ t, exec c s = .next t ∧ t.pending = s.pending ∧
    (c ≠ .resetBegin → (s.swc.station = .reset → ∀ st, c ≠ .resetEnd st) → t.identity = s.identity)

/-- R13 with the reset values of every chapter, and nothing sent or received while reset is held. That the levels the two lines
show are kept is the model's choice (notes/assumptions/4.md), and so are the place of an unused channel, which holds the initial
record (notes/assumptions/19.md), and the commands that wait (notes/assumptions/19.md). -/
def Obligations.ResetBeginClears : Prop :=
  (∀ s : State, exec .resetBegin s = .next
    { identity := none
      swc := { station := .reset
               params := { tag := 0, tSoak := 20, tStress := 20, p := 16, swing := 4, wMin := 0, hMin := 0, budget := 1,
                           retrainMs := 1, musterMs := 1, identifyMs := 1, soakMs := 1, stressMs := 1, reportMs := 1,
                           barrierMs := 1 }
               stageTimer := .stopped, limitExpired := false, released := false, haltReason := .none
               flags := { slotConflict := false, stopSeen := false, unannouncedPeer := false, barrierStall := false }
               foreignSweep := false, settleDelay := .stopped, lampOk := .off, lampFlt := .off }
      lif := { stepLine := s.lif.stepLine, stopLine := s.lif.stopLine, stepDrive := .released, stopDrive := .released
               stopQualified := none, stopRun := .untimed, phase := .off, barrierRun := false, barrierLimit := .stopped
               holdOff := .stopped, idleHigh := .stopped }
      spu := .idle
      channels := Vector.replicate 32
        { static := { cls := none, bridged := false, partner := none, barred := false }
          tx := .off
          rx := { state := .off, polarity := .normal, invertedFlag := false, retrainCount := 0, deadFlag := false
                  missCount := 0, retrainTimer := .stopped, reference := none }
          ident := { state := .idle, heard := none, matchCount := 0, undecodedRun := 0, cls := none, duplicate := false
                     sourceChanged := false }
          soak := { state := .idle, n := 0, e := 0, outcome := none }
          stress := { state := .idle, n := 0, e := 0, outcome := none }
          snapshot := none
          scan := { state := .idle, attempts := 0, outcome := none, figures := none } }
      emn := { grant := none, spotPending := [], scanQueue := [], skip := 0 }
      peers := []
      cfe := { receiver := .waitIdle, queue := [], onLine := none }
      pending := s.pending }) ∧
  (∀ (c : Instr) (s : State), s.swc.station = .reset →
    (isFrame c = true ∨ c = .busIdle ∨ c = .startBit ∨ c = .frameStart ∨ ∃ d, c = .frameDrop d) → exec c s = .next s)

/-- RESET_END: the identity of the straps, BARRED or LISTEN, the CB_STOP run timed from here, the idle-high timer restarted. -/
def Obligations.ResetEndFormsIdentity : Prop :=
  ∀ (st : Straps) (s : State), s.ControlWf → s.swc.station = .reset → ∃ id : Identity,
    id.slot = st.slot.toNat + 1 ∧ id.slots = st.slots.toNat + 1 ∧
    (id.topology = .star ↔ st.topo = true) ∧ (id.policy = .carryOn ↔ st.policy = true) ∧
    (st.width.toNat ≤ 2 → id.widthCode = st.width.toNat) ∧ (st.width.toNat = 3 → id.widthCode = 2) ∧
    id.lanes = 2 ^ id.widthCode ∧
    exec (.resetEnd st) s = .next
      { s with identity := some id
               swc := { s.swc with station := if id.barred then .barred else .listen
                                   lampOk := .off
                                   lampFlt := if id.barred then .steady else .off }
               lif := { s.lif with stopRun := .timing
                                   idleHigh := if s.lif.stepLine = .high then .running else .stopped } }

/-- R3: the three conditions, and what a barred station has. -/
def Obligations.BarredConditions : Prop :=
  ∀ (st : Straps) (id : Identity), id = Identity.ofStraps st →
    (id.barred = true ↔ id.slots < 2 ∨ (id.topology = .star ∧ id.slots < 3) ∨ id.slots < id.slot) ∧
    (id.barred = true →
      id.portCount = 0 ∧ id.keptPorts = 0 ∧ id.truncatedPorts = 0 ∧ id.peerSet = [] ∧
      (∀ c, id.inUse c = false) ∧ (∀ q, id.expectedCount q = 0) ∧
      (∀ s : State, s.identity = some id → s.slotVerdict = .barred) ∧
      (∀ s : State, s.swc.station = .reset → ∃ t, exec (.resetEnd st) s = .next t ∧ t.swc.station = .barred) ∧
      ∀ (c : Instr) (s : State), c ≠ .resetBegin → s.identity = some id → s.swc.station = .barred →
        ∃ t, exec c s = .next t ∧ t.identity = some id ∧ t.swc.station = .barred) ∧
    (id.barred = false →
      ∀ s : State, s.swc.station = .reset → ∃ t, exec (.resetEnd st) s = .next t ∧ t.swc.station = .listen)

/-- R4 to R7: port counts, peers, far-end ports, the peer set, and the agreement of the two ends of a link. -/
def Obligations.PortsOfEveryRole : Prop :=
  ∀ (st : Straps) (id : Identity), id = Identity.ofStraps st → id.barred = false →
    (id.topology = .mesh → id.portCount = id.slots - 1 ∧ ∀ p, p < id.portCount →
      (p + 1 < id.slot → id.portPeer p = p + 1) ∧ (id.slot ≤ p + 1 → id.portPeer p = p + 2) ∧
      (id.slot < id.portPeer p → id.farPort p = id.slot - 1) ∧ (id.portPeer p < id.slot → id.farPort p = id.slot - 2)) ∧
    (id.topology = .star → 3 ≤ id.slot → id.portCount = 2 ∧
      id.portPeer 0 = 1 ∧ id.portPeer 1 = 2 ∧ id.farPort 0 = id.slot - 3 ∧ id.farPort 1 = id.slot - 3) ∧
    (id.topology = .star → id.slot ≤ 2 → id.portCount = id.slots - 1 ∧
      (∀ p, p + 3 ≤ id.slots → id.portPeer p = p + 3 ∧ id.farPort p = id.slot - 1) ∧
      id.portPeer (id.slots - 2) = 3 - id.slot ∧ id.farPort (id.slots - 2) = id.slots - 2) ∧
    1 ≤ id.portCount ∧ id.portCount ≤ 15 ∧ id.peerSet = (List.range id.portCount).map id.portPeer ∧ id.peerSet.Nodup ∧
    (∀ q, q ∈ id.peerSet ↔ if id.topology = .star ∧ 3 ≤ id.slot then q = 1 ∨ q = 2
                           else 1 ≤ q ∧ q ≤ id.slots ∧ q ≠ id.slot) ∧
    (∀ p, p < id.portCount → ∀ far : Identity, far = { id with slot := id.portPeer p } →
      id.farPort p < far.portCount ∧ far.portPeer (id.farPort p) = id.slot ∧ far.farPort (id.farPort p) = p)

/-- R8, R11, R12: kept and truncated ports, expected sources, expected-channel counts. -/
def Obligations.ChannelsAndExpectedSources : Prop :=
  ∀ (st : Straps) (id : Identity), id = Identity.ofStraps st →
    (id.portCount * id.lanes ≤ 32 → id.keptPorts = id.portCount ∧ id.truncatedPorts = 0) ∧
    (32 < id.portCount * id.lanes → id.keptPorts = 32 / id.lanes ∧ id.truncatedPorts = id.portCount - 32 / id.lanes) ∧
    id.truncatedPorts ≤ 7 ∧
    (∀ c : Chan, id.inUse c = true ↔ c.val / id.lanes < id.keptPorts) ∧
    (∀ c : Chan, id.inUse c = true ↔ c.val < id.keptPorts * id.lanes) ∧
    (∀ c : Chan, id.inUse c = false → id.expectedSource c = none) ∧
    (∀ c : Chan, id.inUse c = true → ∃ q d, id.expectedSource c = some { slot := q, channel := d } ∧
      q = id.portPeer (c.val / id.lanes) ∧ d = id.farPort (c.val / id.lanes) * id.lanes + c.val % id.lanes ∧
      1 ≤ q ∧ q ≤ 16 ∧ q ≠ id.slot ∧ q ∈ id.peerSet ∧ d ≤ 59 ∧ (32 ≤ d ↔ id.farTruncated c = true)) ∧
    (∀ q, id.expectedCount q = id.lanes ∨ id.expectedCount q = 0) ∧
    (∀ q, id.expectedCount q = id.lanes ↔ ∃ p, p < id.keptPorts ∧ id.portPeer p = q) ∧
    ((List.range 17).map id.expectedCount).sum = id.keptPorts * id.lanes ∧ id.keptPorts * id.lanes ≤ 32 ∧
    ((List.finRange 32).filter fun c => id.inUse c).length = id.keptPorts * id.lanes

/-! ### Station states and the opening of a sweep -/

/-- The table of 2.1: how the station state may change, and at which command. -/
def Obligations.StationTransitions : Prop :=
  ∀ (c : Instr) (s t : State), exec c s = .next t → t.swc.station = s.swc.station ∨
    (c = .resetBegin ∧ t.swc.station = .reset) ∨
    (s.swc.station = .reset ∧ (∃ st, c = .resetEnd st) ∧ (t.swc.station = .listen ∨ t.swc.station = .barred)) ∨
    ((s.swc.station = .listen ∨ s.swc.station = .done) ∧ (∃ src f, c = .beginFrame src f) ∧
      (t.swc.station = .inStage .muster ∨ t.swc.station = .halted .muster)) ∨
    (c = .barrierTaken ∧ s.swc.released = true ∧
      ((s.swc.station = .inStage .muster ∧ t.swc.station = .inStage .static) ∨
       (s.swc.station = .inStage .static ∧ t.swc.station = .inStage .identify) ∨
       (s.swc.station = .inStage .identify ∧ t.swc.station = .inStage .soak) ∨
       (s.swc.station = .inStage .soak ∧ t.swc.station = .inStage .stress) ∨
       (s.swc.station = .inStage .stress ∧ t.swc.station = .inStage .report) ∨
       (s.swc.station = .inStage .report ∧ t.swc.station = .done))) ∨
    (c = .barrierLimitExpiry ∧ s.swc.released = true ∧ s.swc.station = .inStage .report ∧ t.swc.station = .done) ∨
    (∃ st, st ≠ .report ∧ s.swc.station = .inStage st ∧ t.swc.station = .halted st ∧
      (c = .stopQualifiedLow ∨ c = .roundEnd ∨ c = .barrierLimitExpiry ∨ (∃ n, c = .contentionLoss n) ∨
        (∃ src f, c = .presentFrame src f) ∨ ∃ src tag, c = .ceaseFrame src tag)) ∨
    ((∃ st, s.swc.station = .halted st) ∧ t.swc.station = .done ∧ t.cfe.queue = [] ∧
      (c = .frameComplete ∨ ∃ n, c = .contentionLoss n))

/-- R17, R18, R22, R37, R46, R53, R158, R167: an accepted BEGIN, with no stop already qualified and with one. That CB_STEP shows
LOW after a BEGIN that halts the station in the same event is the model's choice (notes/assumptions/21.md). -/
def Obligations.BeginOpensSweep : Prop :=
  (∀ (src : Byte) (f : BeginFields) (s : State), src.toNat ≤ 16 → (s.swc.station = .listen ∨ s.swc.station = .done) →
    s.cfe.receiver = .frame → ¬(s.lif.stopQualified = some .low ∧ s.lif.stopDrive = .released) →
    exec (.beginFrame src f) s = .next (s.sweepOpened f)) ∧
  (∀ (src : Byte) (f : BeginFields) (s u : State), src.toNat ≤ 16 → (s.swc.station = .listen ∨ s.swc.station = .done) →
    s.cfe.receiver = .frame → s.lif.stopQualified = some .low → s.lif.stopDrive = .released →
    u = { s.sweepOpened f with swc := { (s.sweepOpened f).swc with
            flags := { slotConflict := false, stopSeen := true, unannouncedPeer := false, barrierStall := false } } } →
    (s.stopAll = false → exec (.beginFrame src f) s = .next u) ∧
    (s.stopAll = true → ∃ t, exec (.beginFrame src f) s = .next t ∧ u.HaltedFrom .stopSeen .muster t))

/-- R19: every field is brought into its range and stored, and no command but BEGIN and the start of a reset changes a stored
parameter. -/
def Obligations.BeginFieldsClamped : Prop :=
  (∀ (src : Byte) (f : BeginFields) (s : State), src.toNat ≤ 16 → (s.swc.station = .listen ∨ s.swc.station = .done) →
    s.cfe.receiver = .frame → ∃ t, exec (.beginFrame src f) s = .next t ∧ t.swc.params.tag = f.tag ∧
      StoredIn 20 40 f.tSoak.toNat t.swc.params.tSoak ∧ StoredIn 20 40 f.tStress.toNat t.swc.params.tStress ∧
      StoredIn 16 28 f.p.toNat t.swc.params.p ∧ StoredIn 4 15 f.swing.toNat t.swc.params.swing ∧
      StoredIn 0 64 f.wMin.toNat t.swc.params.wMin ∧ StoredIn 0 63 f.hMin.toNat t.swc.params.hMin ∧
      StoredIn 1 15 f.budget.toNat t.swc.params.budget ∧ StoredIn 1 255 f.retrainMs.toNat t.swc.params.retrainMs ∧
      StoredIn 1 65535 f.musterMs.toNat t.swc.params.musterMs ∧
      StoredIn 1 65535 f.identifyMs.toNat t.swc.params.identifyMs ∧
      StoredIn 1 65535 f.soakMs.toNat t.swc.params.soakMs ∧ StoredIn 1 65535 f.stressMs.toNat t.swc.params.stressMs ∧
      StoredIn 1 65535 f.reportMs.toNat t.swc.params.reportMs ∧
      StoredIn 1 65535 f.barrierMs.toNat t.swc.params.barrierMs) ∧
  (∀ (c : Instr) (s t : State), c ≠ .resetBegin →
    ((∃ src f, c = .beginFrame src f) → s.swc.station ≠ .listen ∧ s.swc.station ≠ .done ∧ s.swc.station ≠ .barred) →
    exec c s = .next t → t.swc.params = s.swc.params)

/-- R16: BEGIN in BARRED. -/
def Obligations.BeginInBarred : Prop :=
  ∀ (src : Byte) (f : BeginFields) (s : State), src.toNat ≤ 16 → s.swc.station = .barred → s.cfe.receiver = .frame →
    exec (.beginFrame src f) s = .next
      { s.afterFrame with
        swc := { s.swc with params := { s.swc.params with tag := f.tag } }
        cfe := { s.afterFrame.cfe with
          queue := if Entry.slotrep ∈ s.cfe.queue then s.cfe.queue else s.cfe.queue ++ [.slotrep] } }

/-- R15, R17, R33, R58, R158, R162, R167, R168, R170: a PRESENT, CEASE, LANEREP or SLOTREP in LISTEN; the frames that are dropped or
ignored and change the receiver alone; and no frame at all for a receiver that is not in FRAME. -/
def Obligations.FramesWithoutEffect : Prop :=
  (∀ (c : Instr) (s : State), isFrame c = true → s.cfe.receiver ≠ .frame → exec c s = .next s) ∧
  (∀ (c : Instr) (s : State), s.cfe.receiver = .frame → s.swc.station = .listen → isTagged c = true → c.wellFormed = true →
    exec c s = .next { s.afterFrame with
      swc := { s.swc with foreignSweep := true, lampOk := .off, lampFlt := s.swc.lampFlt.take (.blink .oneHz) } }) ∧
  ((∀ (c : Instr) (s : State), s.cfe.receiver = .frame → s.swc.station ≠ .reset → isFrame c = true → c.wellFormed = false →
    exec c s = .next s.afterFrame) ∧
  (∀ src f s st, s.cfe.receiver = .frame → s.swc.station = .inStage st ∨ s.swc.station = .halted st →
    exec (.beginFrame src f) s = .next s.afterFrame) ∧
  (∀ src tag s, s.cfe.receiver = .frame → (s.swc.station = .inStage .report ∨ (∃ st, s.swc.station = .halted st) ∨ s.swc.station = .done ∨
      s.swc.station = .barred ∨ ((∃ st, s.swc.station = .inStage st) ∧ tag ≠ s.swc.params.tag)) →
    exec (.ceaseFrame src tag) s = .next s.afterFrame) ∧
  (∀ src f s, s.cfe.receiver = .frame → ((∃ st, st ≠ .muster ∧ s.swc.station = .inStage st) ∨ (∃ st, s.swc.station = .halted st) ∨
      s.swc.station = .done ∨ s.swc.station = .barred ∨
      (s.swc.station = .inStage .muster ∧ (src = 0 ∨ f.tag ≠ s.swc.params.tag))) →
    exec (.presentFrame src f) s = .next s.afterFrame) ∧
  (∀ (c : Instr) (s : State), s.cfe.receiver = .frame → s.swc.station ≠ .reset → s.swc.station ≠ .listen →
    ((∃ src p, c = .lanerepReceived src p) ∨ ∃ src p, c = .slotrepReceived src p) → exec c s = .next s.afterFrame))

/-! ### CEASE, PRESENT, RECALL -/

/-- R29 to R33, R43: a CEASE with the current tag halts the station in MUSTER..STRESS under both policies. That a halted
receiver, from an attempt in flight too, keeps no checker reference is the model's reading (notes/assumptions/11.md). -/
def Obligations.CeaseHalts : Prop :=
  ∀ (src : Byte) (st : Stage) (s : State), src.toNat ≤ 16 → s.cfe.receiver = .frame → st ≠ .report →
    s.swc.station = .inStage st → ∃ t, exec (.ceaseFrame src s.swc.params.tag) s = .next t ∧ s.afterFrame.HaltedFrom .ceased st t

/-- R55, R56: a PRESENT of another slot in MUSTER. -/
def Obligations.PresentTaken : Prop :=
  ∀ (src : Byte) (f : PresentFields) (id : Identity) (s : State), s.PeersWf → s.cfe.receiver = .frame →
    s.swc.station = .inStage .muster →
    s.identity = some id → 1 ≤ src.toNat → src.toNat ≤ 16 → src.toNat ≠ id.slot → f.tag = s.swc.params.tag →
    ∃ t differs, exec (.presentFrame src f) s = .next t ∧ t = { s.afterFrame with peers := t.peers } ∧
      (differs = true ↔ f.slotsMinusOne.toNat % 16 + 1 ≠ id.slots ∨
        (f.topology.getLsbD 0 = true ↔ id.topology = .mesh) ∨ min f.width.toNat 2 ≠ id.widthCode) ∧
      t.peers.Pairwise (fun a b => a.slot < b.slot) ∧
      (∀ q, q ≠ src.toNat → t.peer q = s.peer q) ∧
      (s.peer src.toNat = none → t.peer src.toNat = some { slot := src.toNat, announced := true, mismatch := differs
                                                           expected := id.expectedCount src.toNat, heard := 0
                                                           matched := 0 }) ∧
      (∀ e, s.peer src.toNat = some e → t.peer src.toNat = some { e with mismatch := e.mismatch || differs })

/-- R44, R57, R173: a slot conflict from a PRESENT with the own slot number and the current tag in MUSTER, and from a loss after
the whole SRC byte (two bytes of ten bit times), on top of the loss. Three points are the model's, not the spec's: a receiver
the halt stops keeps no checker reference (notes/assumptions/11.md), an entry that goes with its lost frame goes before the
conflict is taken (notes/assumptions/14.md), and a conflict in RESET or LISTEN, where no frame of the part is on the line, changes
nothing (notes/assumptions/19.md). -/
def Obligations.SlotConflictsTaken : Prop :=
  (∀ (src : Byte) (f : PresentFields) (id : Identity) (s : State), s.cfe.receiver = .frame →
    s.swc.station = .inStage .muster → s.identity = some id → 1 ≤ src.toNat → src.toNat ≤ 16 → src.toNat = id.slot → f.tag = s.swc.params.tag →
    ∃ t, exec (.presentFrame src f) s = .next t ∧ s.afterFrame.ConflictTaken t) ∧
  (∀ (s base : State) (lf : LineFrame) (bit : Nat), s.cfe.onLine = some lf → bit < 10 * lf.bytes.length → 20 ≤ bit →
    exec (.contentionLoss 0) s = .next base → ∃ t, exec (.contentionLoss bit) s = .next t ∧ base.ConflictTaken t)

/-- R162, R163: a RECALL. -/
def Obligations.RecallFillsQueue : Prop :=
  ∀ (src : Byte) (f : RecallFields) (s : State) (addressed : Bool), src.toNat ≤ 16 → s.cfe.receiver = .frame →
    (addressed = true ↔ ∀ i, i < 4 → f.mask.getLsbD i = true → (s.ownSlot - 1).testBit i = f.target.getLsbD i) →
    (s.swc.station = .done → addressed = true → ∃ wanted taken : List Chan,
      wanted = (List.finRange 32).filter
        (fun c => s.inUse c && f.channels.getLsbD c.val && !(s.cfe.queue.contains (.lanerep c))) ∧
      taken = (if f.count = 0 then wanted else wanted.take f.count.toNat) ∧
      exec (.recallFrame src f) s = .next { s.afterFrame with cfe := { s.afterFrame.cfe with
        queue := s.cfe.queue ++ taken.map .lanerep ++
          (if f.summary.getLsbD 0 = true ∧ Entry.slotrep ∉ s.cfe.queue then [.slotrep] else []) } }) ∧
    (s.swc.station = .done → addressed = false → exec (.recallFrame src f) s = .next s.afterFrame) ∧
    (s.swc.station ≠ .done → s.swc.station ≠ .reset → exec (.recallFrame src f) s = .next s.afterFrame)

/-! ### The frame engine -/

/-- R161, R167, R171: WAIT_IDLE, IDLE and FRAME; the head entry's frame is built from the live records and is on the line; no
frame starts from an empty queue, in RESET, or before the receiver is IDLE. -/
def Obligations.ReceiverAndFrameStart : Prop :=
  (∀ (s : State), s.swc.station ≠ .reset →
    (s.cfe.receiver = .waitIdle → exec .busIdle s = .next { s with cfe := { s.cfe with receiver := .idle } }) ∧
    (s.cfe.receiver ≠ .waitIdle → exec .busIdle s = .next s) ∧
    (s.cfe.receiver = .idle → exec .startBit s = .next { s with cfe := { s.cfe with receiver := .frame } }) ∧
    (s.cfe.receiver ≠ .idle → exec .startBit s = .next s) ∧
    (∀ d, s.cfe.receiver = .frame → s.cfe.onLine = none →
      exec (.frameDrop d) s = .next { s with cfe := { s.cfe with receiver := .waitIdle } }) ∧
    (∀ d, s.cfe.receiver ≠ .frame → exec (.frameDrop d) s = .next s)) ∧
  ((∀ (s : State) (e : Entry) (q : List Entry), s.swc.station ≠ .reset → s.cfe.receiver = .idle → s.cfe.onLine = none →
    s.cfe.queue = e :: q →
    exec .frameStart s = .next { s with cfe := { receiver := .frame, queue := e :: q
                                                 onLine := some { entry := e, bytes := buildFrame s e
                                                                  dropOnLoss := false } } }) ∧
  (∀ s : State, s.cfe.queue = [] ∨ s.swc.station = .reset ∨ s.cfe.receiver ≠ .idle → exec .frameStart s = .next s))

/-- R161, R171, R172: a frame that completes leaves the queue; a loss releases the line and keeps the entry at the head, but for an
entry that was to go with its frame; what the removal leads to in HALTED (R32, R34), MUSTER (R22) and REPORT (R27). -/
def Obligations.OwnFramesEnd : Prop :=
  (∀ (s x : State) (lf : LineFrame) (q : List Entry), s.cfe.onLine = some lf → s.cfe.queue = lf.entry :: q →
    x = { s with cfe := { receiver := .waitIdle, queue := q, onLine := none } } →
    (s.swc.station = .reset ∨ s.swc.station = .listen ∨ s.swc.station = .barred ∨ s.swc.station = .done →
      exec .frameComplete s = .next x) ∧
    (∀ st, s.swc.station = .halted st → lf.entry = .present → q = [] →
      exec .frameComplete s = .next { x with cfe := { x.cfe with queue := s.reports } }) ∧
    (∀ st, s.swc.station = .halted st → lf.entry ≠ .present → q = [] → exec .frameComplete s = .next x.sweepEnded) ∧
    (∀ st, s.swc.station = .halted st → lf.entry ≠ .present → q ≠ [] → exec .frameComplete s = .next x) ∧
    (s.swc.station = .inStage .muster → exec .frameComplete s =
      .next (if s.lif.phase = .holding ∧ s.swc.released = false ∧ s.swc.limitExpired = true ∧ Entry.present ∉ q
             then x.stageReleased else x)) ∧
    (s.swc.station = .inStage .report → exec .frameComplete s =
      .next (if s.lif.phase = .holding ∧ s.swc.released = false ∧ q = [] then x.stageReleased else x)) ∧
    (∀ st, s.swc.station = .inStage st → st ≠ .muster → st ≠ .report → s.HoldingWf → exec .frameComplete s = .next x)) ∧
  (∀ (s : State) (lf : LineFrame) (bit : Nat), s.cfe.onLine = some lf → bit < 10 * lf.bytes.length → bit < 20 →
    (lf.dropOnLoss = false → exec (.contentionLoss bit) s = .next { s with cfe := { s.cfe with onLine := none } }) ∧
    (∀ (q : List Entry) (x : State), lf.dropOnLoss = true → s.cfe.queue = lf.entry :: q →
      x = { s with cfe := { s.cfe with queue := q, onLine := none } } →
      (∀ st, s.swc.station = .halted st → lf.entry = .present → q = [] →
        exec (.contentionLoss bit) s = .next { x with cfe := { x.cfe with queue := s.reports } }) ∧
      (s.swc.station = .inStage .muster → exec (.contentionLoss bit) s =
        .next (if s.lif.phase = .holding ∧ s.swc.released = false ∧ s.swc.limitExpired = true ∧ Entry.present ∉ q
               then x.stageReleased else x)) ∧
      (s.swc.station = .inStage .report → exec (.contentionLoss bit) s =
        .next (if s.lif.phase = .holding ∧ s.swc.released = false ∧ q = [] then x.stageReleased else x))))

/-- R168, R169, R176: the receiver's checks accept exactly the frames that the layouts give for a command whose operands are
well formed, and read back every operand. -/
def Obligations.AcceptedFramesRoundTrip : Prop :=
  ∀ (bytes : List Byte) (c : Instr), acceptFrame bytes = some c ↔ c.wellFormed = true ∧ receivedFrame c = some bytes

/-- R53, R64, R133, R164, R165, R176, R177: the frames the part builds pass every check of R168, with the own slot number as SRC,
and what stands at every offset of the LANEREP and the SLOTREP payload. -/
def Obligations.OwnFramesAccepted : Prop :=
  ∀ (s : State) (st : Straps) (id : Identity), id = Identity.ofStraps st → s.identity = some id →
    (∃ f, acceptFrame (buildFrame s .present) = some (.presentFrame (BitVec.ofNat 8 id.slot) f) ∧
      f.tag = s.swc.params.tag ∧ presentDiffers id f = false ∧ (f.policy.getLsbD 0 = true ↔ id.policy = .carryOn)) ∧
    (∀ c, s.LanerepLaid c (lanerepPayload s c) ∧
      acceptFrame (buildFrame s (.lanerep c)) = some (.lanerepReceived (BitVec.ofNat 8 id.slot) (lanerepPayload s c))) ∧
    s.SlotrepLaid id (slotrepPayload s) ∧
    (s.peers.length ≤ 15 →
      acceptFrame (buildFrame s .slotrep) = some (.slotrepReceived (BitVec.ofNat 8 id.slot) (slotrepPayload s)))

/-! ### The stage and stop lines -/

/-- R35, R36, R38, R49: the edges of CB_STOP and CB_STEP, and the runs of CB_STOP that qualify. -/
def Obligations.LineEdgesAndStopQualification : Prop :=
  (∀ (s : State) (level : Level),
    (level ≠ s.lif.stopLine → (level = .low ∨ s.lif.stopDrive = .released) →
      exec (.cbStopEdge level) s = .next { s with lif := { s.lif with
        stopLine := level, stopRun := if s.lif.stopRun = .untimed then .untimed else .timing } }) ∧
    (s.lif.stopRun = .timing → s.lif.stopLine = .high →
      exec .stopQualifiedHigh s = .next { s with lif := { s.lif with stopQualified := some .high, stopRun := .reported } }) ∧
    (s.lif.stopRun ≠ .timing → exec .stopQualifiedHigh s = .next s ∧ exec .stopQualifiedLow s = .next s)) ∧
  (∀ s : State,
    (s.lif.stepLine = .low → s.lif.stepDrive = .released → s.swc.station ≠ .reset →
      exec (.cbStepEdge .high) s = .next { s with lif := { s.lif with
        stepLine := .high, barrierRun := decide (s.lif.phase = .waiting), idleHigh := .running } }) ∧
    (s.lif.stepLine = .low → s.lif.stepDrive = .released → s.swc.station = .reset →
      exec (.cbStepEdge .high) s = .next { s with lif := { s.lif with
        stepLine := .high, barrierRun := decide (s.lif.phase = .waiting), idleHigh := .stopped } }) ∧
    (s.lif.stepLine = .high →
      exec (.cbStepEdge .low) s = .next { s with lif := { s.lif with
        stepLine := .low, barrierRun := false, idleHigh := .stopped } }))

/-- R46 to R48: a qualified low is a stop seen in MUSTER..STRESS while the station does not pull, and nothing more otherwise.
That a receiver the STOP_ALL halt stops keeps no checker reference is the model's reading (notes/assumptions/11.md). -/
def Obligations.QualifiedLowTaken : Prop :=
  ∀ (s q seen : State), s.lif.stopRun = .timing → s.lif.stopLine = .low →
    q = { s with lif := { s.lif with stopQualified := some .low, stopRun := .reported } } →
    seen = { q with swc := { q.swc with flags := { q.swc.flags with stopSeen := true } } } →
    ((∀ st, s.swc.station = .inStage st → st = .report) → exec .stopQualifiedLow s = .next q) ∧
    (s.lif.stopDrive = .pulled → exec .stopQualifiedLow s = .next q) ∧
    (∀ st, s.swc.station = .inStage st → st ≠ .report → s.lif.stopDrive = .released →
      (s.stopAll = false → exec .stopQualifiedLow s = .next seen) ∧
      (s.stopAll = true → ∃ t, exec .stopQualifiedLow s = .next t ∧ seen.HaltedFrom .stopSeen st t))

/-- R20, R23, R24, R28, R39, R65, R66, R79, R89, R103: the barriers from MUSTER into STATIC and from STATIC into IDENTIFY. -/
def Obligations.StaticAndIdentifyEntry : Prop :=
  (∀ s : State, s.lif.phase = .waiting → s.lif.barrierRun = true → s.swc.released = true →
    s.swc.station = .inStage .muster →
    exec .barrierTaken s = .next { s.entered .static .stopped with
      spu := .probing { round := 0, currentOn := false, reference := none, samples := [] } }) ∧
  (∀ s : State, s.lif.phase = .waiting → s.lif.barrierRun = true → s.swc.released = true →
    s.swc.station = .inStage .static →
    ∃ t, exec .barrierTaken s = .next t ∧
      { s.entered .identify (.running (1000 * s.swc.params.identifyMs)) with spu := .idle }.OnlyUsed t ∧
      ∀ c, s.inUse c = true → t.chan c =
        { s.chan c with
          tx := if (s.chan c).static.barred = true then .off
                else .running { swing := 16, patternSent := 0, codeword := none }
          rx := if (s.chan c).rx.state = .dead then (s.chan c).rx
                else { (s.chan c).rx with state := .acquiring, retrainTimer := .stopped }
          ident := { (s.chan c).ident with state := .opened } })

/-- R25, R26, R39, R84, R89, R98, R119, R124, R142, R151: the barriers from IDENTIFY into SOAK and from SOAK into STRESS, with the
grant decision over the requests raised together. -/
def Obligations.SoakAndStressEntry : Prop :=
  (∀ s : State, s.lif.phase = .waiting → s.lif.barrierRun = true → s.swc.released = true →
    s.swc.station = .inStage .identify →
    ∃ t u : State, exec .barrierTaken s = .next t ∧ u = s.entered .soak (.running (1000 * s.swc.params.soakMs)) ∧
      { u with swc := { u.swc with settleDelay := .running 1000 } }.OnlyUsed t ∧
      ∀ c, s.inUse c = true → t.chan c =
        { s.chan c with
          soak := if (s.chan c).rx.state = .dead then { (s.chan c).soak with state := .settled, outcome := some .notRun }
                  else { (s.chan c).soak with state := .waiting }
          rx := if (s.chan c).rx.state = .held
                then { (s.chan c).rx with state := .acquiring, retrainTimer := .stopped } else (s.chan c).rx }) ∧
  (∀ s : State, s.lif.phase = .waiting → s.lif.barrierRun = true → s.swc.released = true →
    s.swc.station = .inStage .soak → s.emn.scanQueue = [] → s.emn.skip = 0 →
    ∃ t u : State, exec .barrierTaken s = .next t.arbitrate ∧
      u = s.entered .stress (.running (1000 * s.swc.params.stressMs)) ∧
      { u with swc := { u.swc with settleDelay := .running 1000 }
               emn := { s.emn with
                 scanQueue := (List.finRange 32).filter fun c : Chan =>
                   s.inUse c && (s.chan c).rx.state == RxState.locked } }.OnlyUsed t ∧
      ∀ c, s.inUse c = true → t.chan c =
        { s.chan c with
          tx := match (s.chan c).tx with
            | .off => .off
            | .running x => .running { x with swing := s.swc.params.swing }
          stress := if (s.chan c).rx.state = .dead
                    then { (s.chan c).stress with state := .settled, outcome := some .notRun }
                    else { (s.chan c).stress with state := .waiting }
          scan := if (s.chan c).rx.state = .locked then { (s.chan c).scan with state := .pending }
                  else if (s.chan c).rx.state = .dead
                  then { (s.chan c).scan with state := .settled, outcome := some .notRun }
                  else { (s.chan c).scan with state := .awaitLock }
          rx := if (s.chan c).rx.state = .held
                then { (s.chan c).rx with state := .acquiring, retrainTimer := .stopped } else (s.chan c).rx })

/-- R27, R34, R39, R45, R50, R79, R100, R152, R160: the barriers from STRESS into REPORT and from REPORT into DONE, and no barrier
where none is waited for (notes/assumptions/2.md). That a receiver stopped at REPORT entry keeps no checker reference is the model's
reading (notes/assumptions/11.md). -/
def Obligations.ReportAndDoneEntry : Prop :=
  (∀ s : State, s.lif.phase = .waiting → s.lif.barrierRun = true → s.swc.released = true →
    s.swc.station = .inStage .stress → s.cfe.queue = [] →
    ∃ t, exec .barrierTaken s = .next t ∧
      { s.entered .report (.running (1000 * s.swc.params.reportMs)) with
        emn := { grant := none, spotPending := [], scanQueue := [], skip := 0 }
        cfe := { s.cfe with queue := s.reports } }.OnlyUsed t ∧
      ∀ c, s.inUse c = true → t.chan c =
        { s.chan c with
          tx := .off
          rx := if (s.chan c).rx.state = .dead then (s.chan c).rx
                else { (s.chan c).rx with state := .off, retrainTimer := .stopped, reference := none } }) ∧
  ((∀ s : State, s.lif.phase = .waiting → s.lif.barrierRun = true → s.swc.released = true →
    s.swc.station = .inStage .report → exec .barrierTaken s = .next s.sweepEnded) ∧
  (∀ s : State, s.lif.phase ≠ .waiting ∨ s.lif.barrierRun = false ∨ s.swc.released = false →
    exec .barrierTaken s = .next s))

/-- R20, R22 to R27, R37, R40: the end of the hold-off, the pull, or pull and release in one event, and the release condition of
each stage. -/
def Obligations.HoldOffAndRelease : Prop :=
  (∀ s : State, s.lif.phase = .holdOff → s.lif.holdOff.isRunning = true →
    (s.releaseReady = false → exec .holdOffExpiry s = .next { s with lif := { s.lif with
      stepDrive := .pulled, phase := .holding, stepLine := .low, idleHigh := .stopped, barrierRun := false
      holdOff := .stopped } }) ∧
    (s.releaseReady = true → exec .holdOffExpiry s = .next s.stageReleased)) ∧
  (∀ s : State,
    (s.swc.station = .inStage .muster → (s.releaseReady = true ↔
      s.swc.limitExpired = true ∧ Entry.present ∉ s.cfe.queue)) ∧
    (s.swc.station = .inStage .static → (s.releaseReady = true ↔ s.spu = .finished)) ∧
    (s.swc.station = .inStage .identify → (s.releaseReady = true ↔
      ∀ c, s.inUse c = true → (s.chan c).ident.state = .settled)) ∧
    (s.swc.station = .inStage .soak → (s.releaseReady = true ↔
      ∀ c, s.inUse c = true → (s.chan c).soak.state = .settled)) ∧
    (s.swc.station = .inStage .stress → (s.releaseReady = true ↔
      ∀ c, s.inUse c = true → (s.chan c).stress.state = .settled ∧ (s.chan c).scan.state = .settled)) ∧
    (s.swc.station = .inStage .report → (s.releaseReady = true ↔ s.cfe.queue = [])))

/-- R27, R29, R42, R44: the barrier limit expires in WAITING. That a receiver the stall halt stops keeps no checker reference is the
model's reading (notes/assumptions/11.md). -/
def Obligations.BarrierLimitStalls : Prop :=
  ∀ (s stalled : State) (st : Stage), s.lif.phase = .waiting → s.lif.barrierLimit.isRunning = true →
    s.swc.released = true → s.swc.station = .inStage st →
    stalled = { s with swc := { s.swc with flags := { s.swc.flags with barrierStall := true } } } →
    (st = .report → exec .barrierLimitExpiry s = .next stalled.sweepEnded) ∧
    (st ≠ .report → ∃ t, exec .barrierLimitExpiry s = .next t ∧ stalled.stopPulled.HaltedFrom .barrierStall st t)

/-- R15, R49, R158: the idle second, and the halves of a lamp's blink. -/
def Obligations.IdleSecondAndLampBlink : Prop :=
  (∀ s : State, s.lif.idleHigh = .running →
    (s.swc.station = .listen → exec .idleSecond s = .next
      { s with lif := { s.lif with idleHigh := .elapsed }
               swc := { s.swc with foreignSweep := false, lampOk := .off, lampFlt := .off } }) ∧
    (s.swc.station ≠ .listen → exec .idleSecond s = .next { s with lif := { s.lif with idleHigh := .elapsed } })) ∧
  (∀ s : State, exec .lampBlinkToggle s = .next { s with swc := { s.swc with
    lampOk := (match s.swc.lampOk with | .off => .off | .steady => .steady | .blink r lit => .blink r (!lit))
    lampFlt := (match s.swc.lampFlt with | .off => .off | .steady => .steady | .blink r lit => .blink r (!lit)) } })

/-- R21, R22, R27, R161: the MUSTER and REPORT limits, and twice the MUSTER limit. That the limit timer of REPORT stands
stopped after its expiry, released or not, is the model's reading (notes/assumptions/16.md). -/
def Obligations.MusterAndReportLimits : Prop :=
  ∀ s : State, s.swc.stageTimer.isRunning = true →
    (∀ x, s.swc.station = .inStage .muster → s.swc.limitExpired = false →
      x = { s with swc := { s.swc with limitExpired := true } } → exec .stageLimitExpiry s =
        .next (if s.lif.phase = .holding ∧ s.swc.released = false ∧ Entry.present ∉ s.cfe.queue
               then x.stageReleased else x)) ∧
    (∀ x, s.swc.station = .inStage .report → s.swc.limitExpired = false →
      x = { s with swc := { s.swc with limitExpired := true, stageTimer := .stopped } } →
      (s.cfe.onLine = none → exec .stageLimitExpiry s =
        .next (if s.lif.phase = .holding ∧ s.swc.released = false
               then { x with cfe := { x.cfe with queue := [] } }.stageReleased
               else { x with cfe := { x.cfe with queue := [] } })) ∧
      (∀ lf, s.cfe.onLine = some lf → exec .stageLimitExpiry s =
        .next { x with cfe := { x.cfe with queue := [lf.entry], onLine := some { lf with dropOnLoss := true } } })) ∧
    (s.swc.station = .inStage .muster → s.swc.limitExpired = true → s.cfe.queue = [.present] →
      (∀ x, s.cfe.onLine = none → x = { s with cfe := { s.cfe with queue := [] } } → exec .musterDoubleLimit s =
        .next (if s.lif.phase = .holding ∧ s.swc.released = false then x.stageReleased else x)) ∧
      (∀ lf, s.cfe.onLine = some lf → exec .musterDoubleLimit s =
        .next { s with cfe := { s.cfe with onLine := some { lf with dropOnLoss := true } } }))

/-- R21, R99, R109, R126, R149: the IDENTIFY, SOAK and STRESS limits settle every open item, and the release is looked at. That
the timer stops at its expiry (notes/assumptions/16.md) and that a receiver that becomes HELD is unseeded
(notes/assumptions/11.md) are the model's readings. -/
def Obligations.StageLimitSettlesItems : Prop :=
  ∀ (s : State) (st : Stage) (id : Identity), s.swc.stageTimer.isRunning = true → s.swc.limitExpired = false →
    s.swc.station = .inStage st → (st = .identify ∨ st = .soak ∨ st = .stress) → s.identity = some id →
    ∃ t, exec .stageLimitExpiry s = .next (State.finish s t) ∧
      { s with swc := { s.swc with limitExpired := true, stageTimer := .stopped }
               emn := { grant := none, spotPending := [], scanQueue := [], skip := 0 } }.OnlyUsed t ∧
      ∀ (c : Chan) (r r' : Channel), s.inUse c = true → r = s.chan c → r' = t.chan c →
        r'.static = r.static ∧ r'.tx = r.tx ∧ r'.snapshot = r.snapshot ∧
        r'.rx = (if r.rx.state.attempting = true then { r.rx with state := .held, reference := none } else r.rx) ∧
        (r.ident.state ≠ .opened → r'.ident = r.ident) ∧
        (r.ident.state = .opened → r'.ident = { r.ident with state := .settled, cls := some (match r.ident.heard with
          | some h => classFromCapture id c h
          | none => if r.rx.state = .locked then .undecoded else s.silentClass c) }) ∧
        (st ≠ .soak → r'.soak = r.soak) ∧ (st ≠ .stress → r'.stress = r.stress) ∧
        (∀ k k', (st = .soak ∧ k = r.soak ∧ k' = r'.soak) ∨ (st = .stress ∧ k = r.stress ∧ k' = r'.stress) →
          (k.state = .counting → k' = { k with state := .settled, outcome := some .undersampled }) ∧
          (k.state = .waiting → k' = { k with state := .settled, outcome := some .notRun }) ∧
          (k.state = .idle ∨ k.state = .settled → k' = k)) ∧
        (r.scan.state = .idle ∨ r.scan.state = .settled → r'.scan = r.scan) ∧
        (r.scan.state = .awaitLock ∨ r.scan.state = .pending ∨ r.scan.state = .granted →
          r'.scan = { r.scan with state := .settled, outcome := some (if r.scan.attempts = 0 then .notRun else .cut) })

/-- R119, R120: the end of the settle delay starts the count of every LOCKED channel that waits, and changes no other record and
no other item. A delay that ends outside SOAK and STRESS finds no count (notes/assumptions/16.md). -/
def Obligations.SettleDelayStartsCounts : Prop :=
  ∀ s : State, s.swc.settleDelay.isRunning = true →
    (∀ st, s.swc.station = .inStage st → ∃ t, exec .settleDelayExpiry s = .next t ∧
      { s with swc := { s.swc with settleDelay := .stopped } }.OnlyUsed t ∧
      ∀ c, s.inUse c = true → t.chan c =
        { s.chan c with
          soak := if st = .soak ∧ (s.chan c).rx.state = .locked ∧ (s.chan c).soak.state = .waiting
                  then { (s.chan c).soak with state := .counting, n := 0, e := 0 } else (s.chan c).soak
          stress := if st = .stress ∧ (s.chan c).rx.state = .locked ∧ (s.chan c).stress.state = .waiting
                    then { (s.chan c).stress with state := .counting, n := 0, e := 0 } else (s.chan c).stress }) ∧
    ((∀ st, s.swc.station ≠ .inStage st) →
      exec .settleDelayExpiry s = .next { s with swc := { s.swc with settleDelay := .stopped } })

/-! ### The static probe -/

/-- R66: the reference reading, the current, the samples, the end of the current; R28, R67: the states in which an in-use receive
pair presents its termination, and in which a transmit pair that is not barred has its own on for the probe. -/
def Obligations.ProbeReadings : Prop :=
  (∀ (s : State) (c : Chan),
    (s.rxTerminated c = true ↔ s.inUse c = true ∧ (s.swc.station = .inStage .static ∨ s.swc.station = .inStage .identify ∨
      s.swc.station = .inStage .soak ∨ s.swc.station = .inStage .stress)) ∧
    (s.txTerminated c = true ↔ s.inUse c = true ∧ (s.chan c).static.barred = false ∧ s.swc.station = .inStage .static)) ∧
  ∀ (s : State) (p : ProbeRound) (levels : Vector MicroVolts 32), s.spu = .probing p →
    (p.reference = none → exec (.probeReferenceReading levels) s = .next { s with spu := .probing { p with
      reference := some (Vector.ofFn fun c => if s.inUse c = true ∧ c ≠ p.round then some levels[c.val] else none) } }) ∧
    exec .probeCurrentOn s = .next { s with spu := .probing { p with currentOn := s.inUse p.round } } ∧
    (p.reference.isSome = true → p.samples.length < 4 → exec (.probeSample levels) s = .next { s with spu := .probing { p with
      samples := p.samples ++ [Vector.ofFn fun c => if s.inUse c = true then some levels[c.val] else none] } }) ∧
    exec .probeCurrentOff s = .next { s with spu := .probing { p with currentOn := false } }

/-- R68, R70: the class of a sample, and an induced rise. -/
def Obligations.SampleClassesAndRises : Prop :=
  (∀ v : MicroVolts, (v < 200000 → sampleClass v = .shortLow) ∧
    (200000 ≤ v → v ≤ 1000000 → sampleClass v = .terminated) ∧
    (1000000 < v → v ≤ 1600000 → sampleClass v = .openPair) ∧ (1600000 < v → sampleClass v = .shortHigh)) ∧
  (∀ (p : ProbeRound) (c : Chan), p.rose c = true ↔ ∃ ref v0, p.reference = some ref ∧ ref[c.val] = some v0 ∧
    ∃ v ∈ p.samples, ∃ v1, v[c.val] = some v1 ∧ 50000 < v1 - v0)

/-- R69, R71 to R74: the end of a round: the findings, the next round or FINISHED, the SHORT_HIGH cause, the release of STATIC.
The stop cause is taken before the end of the probe (the model's order, notes/assumptions/8.md).
What the halt does to a checker reference is notes/assumptions/11.md. -/
def Obligations.RoundEndFindings : Prop :=
  ∀ (s : State) (p : ProbeRound) (ref : Readings) (k : StaticClass), s.spu = .probing p → p.reference = some ref →
    p.samples.length = 4 → s.swc.station = .inStage .static →
    (s.inUse p.round = true → (∀ v ∈ p.samples, ∃ x, v[p.round.val] = some x)) →
    (∀ x, (∀ v ∈ p.samples, ∃ y, v[p.round.val] = some y ∧ sampleClass y = x) → k = x) →
    ((∃ v ∈ p.samples, ∃ w ∈ p.samples, ∃ x y, v[p.round.val] = some x ∧ w[p.round.val] = some y ∧
      sampleClass x ≠ sampleClass y) → k = .unstable) →
    ∃ u : State,
      { s with spu := if h : p.round.val + 1 < 32
                      then .probing { round := ⟨p.round.val + 1, h⟩, currentOn := false, reference := none, samples := [] }
                      else .finished }.OnlyUsed u ∧
      (∀ c, s.inUse c = true → c = p.round → u.chan c = { s.chan c with static := { (s.chan c).static with
        cls := some k, barred := (s.chan c).static.barred || k == .shortLow || k == .shortHigh } }) ∧
      (∀ c, s.inUse c = true → c ≠ p.round → p.rose c = true → u.chan c = { s.chan c with static := {
        (s.chan c).static with bridged := true, partner := some (if s.inUse p.round = true then .own p.round else .foreign) } }) ∧
      (∀ c, s.inUse c = true → c ≠ p.round → p.rose c = false → u.chan c = s.chan c) ∧
      (∀ v, ((s.inUse p.round = true ∧ k = .shortHigh → v = u.stopPulled) ∧
             (¬(s.inUse p.round = true ∧ k = .shortHigh) → v = u)) →
        (s.inUse p.round = true ∧ k = .shortHigh ∧ s.stopAll = true →
          ∃ t, exec .roundEnd s = .next t ∧ v.HaltedFrom .shortHigh .static t) ∧
        (¬(s.inUse p.round = true ∧ k = .shortHigh ∧ s.stopAll = true) → exec .roundEnd s =
          .next (if p.round.val = 31 ∧ s.lif.phase = .holding ∧ s.swc.released = false then v.stageReleased else v)))

/-! ### Lanes: tokens and their code -/

/-- R80 to R82, R175: a token period starts with the token of the station's state at that moment, and what goes out in it, bit by
bit: the marker, most significant bit first, the codeword, position 0 first, and pattern bits that run on from the period before.
The pattern: 31 ones, then each bit the exclusive-or of those 28 and 31 places before. An OFF transmitter ignores the start
(notes/assumptions/2.md). -/
def Obligations.TokenPeriodStarts : Prop :=
  (∀ k, (k < 31 → patternBit k = true) ∧ patternBit (k + 31) = (patternBit (k + 3) ^^ patternBit k)) ∧
  (∀ (s : State) (c : Chan), (s.chan c).tx = .off → exec (.tokenPeriodStart c) s = .next s ∧ ∀ k, s.laneBit c k = none) ∧
  ∀ (s : State) (c : Chan) (x : TxRun) (st : Stage) (straps : Straps) (id : Identity), id = Identity.ofStraps straps →
    s.identity = some id → (s.chan c).tx = .running x → s.swc.station = .inStage st →
    ∃ (t : State) (tok : Token) (sent : Nat), sent = (if x.codeword = none then x.patternSent else x.patternSent + 65472) ∧
      (∀ k, (k < 32 → t.laneBit c k = some ((0x3C5A96E1#32).getLsbD (31 - k))) ∧
        (32 ≤ k → k < 64 → t.laneBit c k = some (tok.encode.getLsbD (k - 32))) ∧
        (64 ≤ k → k < 65536 → t.laneBit c k = some (patternBit (sent + (k - 64)))) ∧
        (65536 ≤ k → t.laneBit c k = none)) ∧
      exec (.tokenPeriodStart c) s = .next t ∧
      tok.slot.toNat = id.slot ∧ tok.channel.toNat = c.val ∧ tok.stage.toNat = st.code ∧ tok.tag = s.swc.params.tag ∧
      tok.slotsMinusOne.toNat + 1 = id.slots ∧ (tok.topology = true ↔ id.topology = .star) ∧
      s.OnlyChan c { s.chan c with tx := .running {
        swing := x.swing
        patternSent := sent
        codeword := some tok.encode } } t

/-- R83, R175: where the 26 information bits stand, and even parity over each check's positions and over all 32. -/
def Obligations.TokenCodewords : Prop :=
  ∀ t : Token,
    (∀ k, k < 26 → ∀ pos, [3, 5, 6, 7, 9, 10, 11, 12, 13, 14, 15, 17, 18, 19, 20, 21, 22, 23, 24, 25, 26, 27, 28, 29, 30,
        31][k]? = some pos →
      t.encode.getLsbD pos = (t.slot ++ t.channel ++ t.stage ++ t.tag ++ t.slotsMinusOne ++
        BitVec.ofBool t.topology).getLsbD (25 - k)) ∧
    (∀ i, i < 5 → ((List.range 32).filter fun pos => pos.testBit i && t.encode.getLsbD pos).length % 2 = 0) ∧
    ((List.range 32).filter fun pos => t.encode.getLsbD pos).length % 2 = 0

/-- R83, R87: a codeword decodes clean, with any one bit in error it is corrected, and any two are uncorrectable. -/
def Obligations.TokenCodeCorrects : Prop :=
  ∀ t : Token, decodeToken t.encode = .clean t ∧
    (∀ i, i < 32 → decodeToken (t.encode ^^^ (1#32 <<< i)) = .corrected t) ∧
    (∀ i j, i < 32 → j < 32 → i ≠ j → decodeToken (t.encode ^^^ (1#32 <<< i) ^^^ (1#32 <<< j)) = .uncorrectable)

/-! ### Lanes: the lock attempt -/

/-- R89, R94, R97, R99: the clock is acquired; the retrain timer expires into a new attempt, or into HELD after the stage limit;
a receiver with no recovered clock loses none (notes/assumptions/17.md). -/
def Obligations.AttemptsStart : Prop :=
  (∀ (s : State) (c : Chan) (r : Channel), r = s.chan c →
    (r.rx.state = .acquiring → ∃ t, exec (.clockAcquired c) s = .next t ∧
      s.OnlyChan c { r with rx := { r.rx with state := .searching } } t) ∧
    (r.rx.state = .retrainWait → r.rx.retrainTimer.isRunning = true → s.swc.limitExpired = false →
      ∃ t, exec (.retrainTimerExpiry c) s = .next t ∧
        s.OnlyChan c { r with rx := { r.rx with state := .acquiring, retrainTimer := .stopped } } t) ∧
    (r.rx.state = .retrainWait → r.rx.retrainTimer.isRunning = true → s.swc.limitExpired = true →
      ∃ t, exec (.retrainTimerExpiry c) s = .next t ∧
        s.OnlyChan c { r with rx := { r.rx with state := .held, retrainTimer := .stopped } } t)) ∧
  (∀ (s : State) (c : Chan), ((s.chan c).rx.state = .off ∨ (s.chan c).rx.state = .acquiring ∨
      (s.chan c).rx.state = .retrainWait ∨ (s.chan c).rx.state = .held ∨ (s.chan c).rx.state = .dead) →
    exec (.clockLoss c) s = .next s)

/-- R90 to R92, R151: a search that finds the marker twice in one form and seeds its checker takes the receiver to SPOT_WAIT with
a SPOT request; one whose finds fail, or whose finds hold and one of the 1,024 predicted bits differs, goes on. -/
def Obligations.SearchesSucceed : Prop :=
  ∀ (s : State) (c : Chan) (r : Channel) (find1 find2 : BitVec 32) (seed : BitVec 31) (next : BitVec 1024),
    r = s.chan c → r.rx.state = .searching →
    (∀ pol, (pol = .normal ∧ find1 = 0x3C5A96E1#32 ∧ find2 = 0x3C5A96E1#32 ∨
             pol = .inverted ∧ find1 = ~~~0x3C5A96E1#32 ∧ find2 = ~~~0x3C5A96E1#32) →
      (∀ k, k < 1024 → (pol.take next).getLsbD (1023 - k) = nextPatternBit (advancePatternBy k (pol.take seed))) →
      ∃ u, exec (.searchSuccess c find1 find2 seed next) s = .next (State.arbitrate u) ∧
        s.ChanAndMonitor c { r with rx := { r.rx with state := .spotWait, polarity := pol, missCount := 0
                                                      reference := some (advancePatternBy 1024 (pol.take seed))
                                                      invertedFlag := r.rx.invertedFlag || pol == .inverted } }
          { s.emn with spotPending := addSpot c s.emn.spotPending } u) ∧
    (∀ pol : Polarity, (pol = .normal ∧ find1 = 0x3C5A96E1#32 ∧ find2 = 0x3C5A96E1#32 ∨
             pol = .inverted ∧ find1 = ~~~0x3C5A96E1#32 ∧ find2 = ~~~0x3C5A96E1#32) →
      (∃ k, k < 1024 ∧ (pol.take next).getLsbD (1023 - k) ≠ nextPatternBit (advancePatternBy k (pol.take seed))) →
      exec (.searchSuccess c find1 find2 seed next) s = .next s) ∧
    (¬(find1 = 0x3C5A96E1#32 ∧ find2 = 0x3C5A96E1#32) ∧ ¬(find1 = ~~~0x3C5A96E1#32 ∧ find2 = ~~~0x3C5A96E1#32) →
      exec (.searchSuccess c find1 find2 seed next) s = .next s)

/-- R89, R90, R92, R95, R96, R141: an attempt fails in any phase: the request is withdrawn or the grant ended, the retrain count
rises, and the receiver waits or is DEAD. That an attempt that fails in SPOT_WAIT or SPOT_RUN leaves no checker reference is the model's
reading (notes/assumptions/11.md). -/
def Obligations.AttemptsFail : Prop :=
  ∀ (s : State) (c : Chan) (st : Stage) (e : Instr), s.swc.station = .inStage st →
    (e = .acquisitionTimeout c ∧ (s.chan c).rx.state = .acquiring ∨
     e = .searchTimeout c ∧ (s.chan c).rx.state = .searching ∨
     e = .clockLoss c ∧ ((s.chan c).rx.state = .searching ∨ (s.chan c).rx.state = .spotWait ∨
       (s.chan c).rx.state = .spotRun)) →
    ∃ u r', exec e s = .next (State.finish s u.arbitrate) ∧ s.FailedIn st c (s.chan c) r' ∧
      s.ChanAndMonitor c r' { s.emn with spotPending := s.emn.spotPending.erase c, grant := s.emn.withoutGrantOf c } u

/-- R94 to R96, R107, R125, R130, R147: a LOCKED receiver loses lock. -/
def Obligations.LockIsLost : Prop :=
  ∀ (s : State) (c : Chan) (st : Stage) (r lost : Channel), s.swc.station = .inStage st → r = s.chan c →
    r.rx.state = .locked →
    lost.static = r.static → lost.tx = r.tx → lost.rx = r.rx →
    lost.snapshot = (r.snapshot <|> some { stage := st, kind := .lockLost, n := r.bitNumber st }) →
    lost.ident = (if r.ident.state = .opened then { r.ident with undecodedRun := 0 } else r.ident) →
    lost.soak = (if st = .soak ∧ r.soak.state = .counting
                 then { r.soak with state := .settled, outcome := some .lost } else r.soak) →
    lost.stress = (if st = .stress ∧ r.stress.state = .counting
                   then { r.stress with state := .settled, outcome := some .lost } else r.stress) →
    lost.scan = (if r.scan.state = .pending ∨ r.scan.state = .granted ∧ r.scan.attempts < 2
                 then { r.scan with state := .awaitLock }
                 else if r.scan.state = .granted then { r.scan with state := .settled, outcome := some .aborted }
                 else r.scan) →
    ∃ u r', exec (.clockLoss c) s = .next (State.finish s u.arbitrate) ∧ s.FailedIn st c lost r' ∧
      s.ChanAndMonitor c r' { s.emn with
        scanQueue := s.emn.scanQueue.erase c, grant := s.emn.withoutGrantOf c
        skip := if s.emn.scanQueue.erase c = [] then 0 else s.emn.skip } u

/-! ### Lanes: token blocks and compared bits -/

/-- R86 to R88, R107, R130: markers seen and missed, the fourth miss in a row (taken before the block event,
notes/assumptions/9.md), and a block event in LOCKED that carries no valid token. -/
def Obligations.MarkersAndEmptyBlocks : Prop :=
  (∀ (s : State) (c : Chan) (r : Channel) (marker codeword : BitVec 32) (seen : Bool), r = s.chan c →
    (seen = true ↔
      ((List.range 32).filter fun i => (r.rx.polarity.take marker).getLsbD i != (0x3C5A96E1#32).getLsbD i).length ≤ 3) →
    (r.rx.state = .spotWait ∨ r.rx.state = .spotRun →
      (seen = true → ∃ t, exec (.tokenBlockEnd c marker codeword) s = .next t ∧
        s.OnlyChan c { r with rx := { r.rx with missCount := 0 } } t) ∧
      (seen = false → r.rx.missCount < 3 → ∃ t, exec (.tokenBlockEnd c marker codeword) s = .next t ∧
        s.OnlyChan c { r with rx := { r.rx with missCount := r.rx.missCount + 1 } } t)) ∧
    (r.rx.state = .spotWait ∨ r.rx.state = .spotRun ∨ r.rx.state = .locked → seen = false → r.rx.missCount = 3 →
      ∃ u, s.OnlyChan c { r with rx := { r.rx with missCount := 4 } } u ∧
        exec (.tokenBlockEnd c marker codeword) s = exec (.clockLoss c) u) ∧
    (r.rx.state.following = false → exec (.tokenBlockEnd c marker codeword) s = .next s)) ∧
  (∀ (s : State) (c : Chan) (st : Stage) (id : Identity) (r : Channel) (marker codeword : BitVec 32), r = s.chan c →
    s.swc.station = .inStage st → s.identity = some id → r.rx.state = .locked →
    (markerSeen (r.rx.polarity.take marker) = false → r.rx.missCount < 3 →
      ∃ u, exec (.tokenBlockEnd c marker codeword) s = .next (State.finish s u) ∧
        s.OnlyChan c { r with rx := { r.rx with missCount := r.rx.missCount + 1 }, ident := r.ident.withoutToken } u) ∧
    (markerSeen (r.rx.polarity.take marker) = true → decodeToken (r.rx.polarity.take codeword) = .uncorrectable →
      ∃ u, exec (.tokenBlockEnd c marker codeword) s = .next (State.finish s u) ∧
        s.OnlyChan c { r with rx := { r.rx with missCount := 0 }, ident := r.ident.withoutToken
                              snapshot := r.snapshot <|>
                                some { stage := st, kind := .tokenUncorrectable, n := r.bitNumber st } } u) ∧
    (∀ tok, markerSeen (r.rx.polarity.take marker) = true →
      (decodeToken (r.rx.polarity.take codeword) = .clean tok ∨
        decodeToken (r.rx.polarity.take codeword) = .corrected tok) →
      (tok.slot.toNat = 0 ∨ 16 < tok.slot.toNat ∨ tok.stage.toNat ≠ st.code ∨ tok.tag ≠ s.swc.params.tag) →
      ∃ u, exec (.tokenBlockEnd c marker codeword) s = .next (State.finish s u) ∧
        s.OnlyChan c { r with rx := { r.rx with missCount := 0 }, ident := r.ident.withoutToken } u))

/-- R59, R88, R104 to R106, R115, R130: a block event that carries a valid token. -/
def Obligations.ValidTokensTaken : Prop :=
  ∀ (s : State) (c : Chan) (st : Stage) (id : Identity) (r : Channel) (marker codeword : BitVec 32) (tok : Token)
    (src : Source) (differs : Bool), s.PeersWf → r = s.chan c → s.swc.station = .inStage st →
    (st = .identify ∨ st = .soak ∨ st = .stress) → s.identity = some id → r.rx.state = .locked →
    markerSeen (r.rx.polarity.take marker) = true →
    (decodeToken (r.rx.polarity.take codeword) = .clean tok ∨ decodeToken (r.rx.polarity.take codeword) = .corrected tok) →
    1 ≤ tok.slot.toNat → tok.slot.toNat ≤ 16 → tok.stage.toNat = st.code → tok.tag = s.swc.params.tag →
    src = { slot := tok.slot.toNat, channel := tok.channel.toNat } →
    (differs = true ↔ tok.slotsMinusOne.toNat + 1 ≠ id.slots ∨ (tok.topology = true ↔ id.topology = .mesh)) →
    ∃ u r', exec (.tokenBlockEnd c marker codeword) s = .next (State.finish s u) ∧
      u = { s with channels := u.channels, peers := u.peers, swc := { s.swc with flags := u.swc.flags } } ∧
      u.chan c = r' ∧ (∀ d, d ≠ c → u.chan d = s.chan d) ∧
      (src.slot = id.slot → u.peers = s.peers ∧ u.swc.flags = s.swc.flags) ∧
      (∀ q, q ≠ src.slot → u.peer q = s.peer q) ∧
      (src.slot ≠ id.slot → s.peer src.slot = none →
        u.peer src.slot = some { slot := src.slot, announced := false, mismatch := differs
                                 expected := id.expectedCount src.slot, heard := 0, matched := 0 } ∧
        u.swc.flags = { s.swc.flags with unannouncedPeer := true }) ∧
      (∀ e, src.slot ≠ id.slot → s.peer src.slot = some e →
        u.peer src.slot = some { e with mismatch := e.mismatch || differs } ∧ u.swc.flags = s.swc.flags) ∧
      r'.static = r.static ∧ r'.tx = r.tx ∧ r'.rx = { r.rx with missCount := 0 } ∧ r'.soak = r.soak ∧
      r'.stress = r.stress ∧ r'.scan = r.scan ∧
      r'.snapshot = (if r.ident.state = .settled ∧ r.ident.heard ≠ none ∧ r.ident.heard ≠ some src ∧ st ≠ .identify
        then r.snapshot <|> some { stage := st, kind := .foreignToken, n := r.bitNumber st } else r.snapshot) ∧
      (r.ident.state = .opened → r.ident.heard = none →
        r'.ident = { r.ident with heard := some src, matchCount := 1, undecodedRun := 0 }) ∧
      (r.ident.state = .opened → r.ident.heard = some src → r.ident.matchCount < 15 →
        r'.ident = { r.ident with matchCount := r.ident.matchCount + 1, undecodedRun := 0 }) ∧
      (r.ident.state = .opened → r.ident.heard = some src → r.ident.matchCount = 15 →
        r'.ident = { r.ident with matchCount := 16, undecodedRun := 0, state := .settled
                                  cls := some (classFromCapture id c src) }) ∧
      (r.ident.state = .opened → r.ident.heard ≠ none → r.ident.heard ≠ some src →
        r'.ident = { r.ident with undecodedRun := 0, state := .settled, cls := some .unstable }) ∧
      (r.ident.state = .settled → r.ident.heard ≠ none → r.ident.heard ≠ some src →
        r'.ident = { r.ident with sourceChanged := true }) ∧
      (r.ident.state = .idle ∨ r.ident.state = .settled ∧ (r.ident.heard = none ∨ r.ident.heard = some src) →
        r'.ident = r.ident)

/-- R62, R110: the class from a captured source, and of a channel that settles without one while not LOCKED. -/
def Obligations.MappingClassesGiven : Prop :=
  (∀ (id : Identity) (c : Chan) (q d : Nat) (heard : Source), id.expectedSource c = some { slot := q, channel := d } →
    (heard.slot = id.slot → classFromCapture id c heard = .loopback) ∧
    (heard.slot ≠ id.slot → heard.slot = q → heard.channel = d → classFromCapture id c heard = .match_) ∧
    (heard.slot ≠ id.slot → heard.slot = q → heard.channel ≠ d → heard.channel / id.lanes = d / id.lanes →
      classFromCapture id c heard = .laneSwap) ∧
    (heard.slot ≠ id.slot → heard.slot = q → heard.channel / id.lanes ≠ d / id.lanes →
      classFromCapture id c heard = .foreignPort) ∧
    (heard.slot ≠ id.slot → heard.slot ≠ q → classFromCapture id c heard = .wrongPeer)) ∧
  (∀ (s : State) (c : Chan) (src : Source), s.expectedSource c = some src →
    (∀ e, s.peer src.slot = some e → e.announced = true → s.silentClass c = .silent) ∧
    (∀ e, s.peer src.slot = some e → e.announced = false → s.silentClass c = .noPeer) ∧
    (s.peer src.slot = none → s.silentClass c = .noPeer))

/-- R24, R60, R113: the close of an event that may settle items: IDENTIFY completion when the last OPEN channel has settled in
it, then the release if its condition holds. -/
def Obligations.IdentifyCompletion : Prop :=
  ∀ (before s : State),
    (s.swc.station = .inStage .identify → (∃ c, before.inUse c = true ∧ (before.chan c).ident.state = .opened) →
      (∀ c, s.inUse c = true → (s.chan c).ident.state ≠ .opened) →
      ∃ u : State, u = { s with channels := u.channels, peers := u.peers } ∧
        (∀ c, s.inUse c = false → u.chan c = s.chan c) ∧
        (∀ c, s.inUse c = true → ∃ b : Bool,
          u.chan c = { s.chan c with ident := { (s.chan c).ident with duplicate := b } } ∧
          (b = true ↔ (s.chan c).ident.duplicate = true ∨ (s.chan c).ident.heard ≠ none ∧
            ∃ d, d ≠ c ∧ s.inUse d = true ∧ (s.chan d).ident.heard = (s.chan c).ident.heard)) ∧
        u.peers = s.peers.map (fun e => { e with
          heard := ((List.finRange 32).filter fun c : Chan =>
            s.inUse c && ((s.chan c).ident.heard.map (·.slot)) == some e.slot).length
          matched := ((List.finRange 32).filter fun c : Chan =>
            s.inUse c && ((s.chan c).ident.heard.map (·.slot)) == some e.slot &&
              (s.chan c).ident.cls == some MappingClass.match_).length }) ∧
        State.finish before s = if s.lif.phase = .holding ∧ s.swc.released = false ∧ s.releaseReady = true
                                then u.stageReleased else u) ∧
    (¬(s.swc.station = .inStage .identify ∧ (∃ c, before.inUse c = true ∧ (before.chan c).ident.state = .opened) ∧
        ∀ c, s.inUse c = true → (s.chan c).ident.state ≠ .opened) →
      State.finish before s = if s.lif.phase = .holding ∧ s.swc.released = false ∧ s.releaseReady = true
                              then s.stageReleased else s)

/-- R121 to R123, R129, R130, R138: one compared bit at the checker, at the count of the stage and at the eye monitor. A
receiver in SPOT_WAIT or SPOT_RUN keeps its checker's place too (notes/assumptions/6.md). A point of the lane that stands at 2^P
bits has ended before the next bit (notes/assumptions/5.md). -/
def Obligations.ComparedBitsTaken : Prop :=
  (∀ (s t : State) (c : Chan) (g : Grant) (d received monitor : Bool), s.emn.grant = some g → g.channel = c →
    g.bits = 2 ^ s.swc.params.p → exec (.pointEnd d) s = .next t →
    exec (.comparedBit c received monitor) s = exec (.comparedBit c received monitor) t) ∧
  ∀ (s : State) (c : Chan) (st : Stage) (r : Channel) (ref : BitVec 31) (received monitor err : Bool), r = s.chan c →
    s.swc.station = .inStage st → r.rx.reference = some ref → r.rx.state.following = true →
    err = (r.rx.polarity.takeBit received != (ref.getLsbD 27 ^^ ref.getLsbD 30)) →
    (∀ g, s.emn.grant = some g → g.channel = c → g.bits < 2 ^ s.swc.params.p) →
    ∃ u r' m, exec (.comparedBit c received monitor) s = .next (State.finish s u) ∧ s.ChanAndMonitor c r' m u ∧
      r'.static = r.static ∧ r'.tx = r.tx ∧ r'.ident = r.ident ∧ r'.scan = r.scan ∧
      r'.rx = { r.rx with reference := some (advancePattern ref) } ∧
      (∀ (k k' : StageCount) (t : Nat), (st = .soak ∧ k = r.soak ∧ k' = r'.soak ∧ t = s.swc.params.tSoak) ∨
          (st = .stress ∧ k = r.stress ∧ k' = r'.stress ∧ t = s.swc.params.tStress) →
        (r.rx.state = .locked → k.state = .counting →
          k'.n = k.n + 1 ∧ k'.e = (if err = true then k.e + 1 else k.e) ∧
          (16 ≤ k'.e → k'.state = .settled ∧ k'.outcome = some .failed) ∧
          (∀ w, [12, 19, 26, 32, 37, 43, 48, 53, 58, 63, 68, 73, 78, 83, 88, 93][k'.e]? = some w →
            (w * 2 ^ (t - 2) ≤ k'.n → k'.state = .settled ∧ k'.outcome = some .met) ∧
            (k'.n < w * 2 ^ (t - 2) → k'.state = .counting ∧ k'.outcome = k.outcome)) ∧
          r'.snapshot = (if err = true then r.snapshot <|> some { stage := st, kind := .bitError, n := k.n + 1 }
                         else r.snapshot)) ∧
        (¬(r.rx.state = .locked ∧ k.state = .counting) → k' = k ∧ r'.snapshot = r.snapshot)) ∧
      (st ≠ .soak → r'.soak = r.soak) ∧ (st ≠ .stress → r'.stress = r.stress) ∧
      (st ≠ .soak → st ≠ .stress → r'.snapshot = r.snapshot) ∧
      (∀ g, s.emn.grant = some g → g.channel = c →
        m = { s.emn with grant := some { g with bits := g.bits + 1, disagreed := g.disagreed || received != monitor } }) ∧
      ((∀ g, s.emn.grant = some g → g.channel ≠ c) → m = s.emn)

/-! ### The eye monitor -/

/-- R92, R93, R120, R138, R140, R142, R151: no point ends before its bit number is 2^P; the two points of a SPOT that end there,
and its result. The point is judged by its compared bits alone (notes/assumptions/5.md). That a failed SPOT leaves
no checker reference is the model's reading too (notes/assumptions/11.md). -/
def Obligations.SpotPointsEnd : Prop :=
  (∀ (s : State) (d : Bool), (∀ g, s.emn.grant = some g → g.bits ≠ 2 ^ s.swc.params.p) → exec (.pointEnd d) s = .next s) ∧
  ∀ (s : State) (g : Grant) (d : Bool) (st : Stage) (c : Chan) (r : Channel), s.emn.grant = some g → c = g.channel →
    g.bits = 2 ^ s.swc.params.p → r = s.chan c → s.swc.station = .inStage st →
    (g.procedure = .spot none → exec (.pointEnd d) s = .next { s with emn := { s.emn with
      grant := some { channel := c, procedure := .spot (some !g.disagreed)
                      point := { phase := -8, threshold := 0, chop := .normal }, bits := 0, disagreed := false } } }) ∧
    (∀ first, g.procedure = .spot (some first) → (first && !g.disagreed) = false →
      ∃ u r', exec (.pointEnd d) s = .next (State.finish s u.arbitrate) ∧ s.FailedIn st c r r' ∧
        s.ChanAndMonitor c r' { s.emn with grant := none } u) ∧
    (g.procedure = .spot (some true) → g.disagreed = false →
      ∃ u r', exec (.pointEnd d) s = .next (State.finish s u.arbitrate) ∧
        s.ChanAndMonitor c r' (if r.scan.state = .awaitLock
          then { s.emn with grant := none, scanQueue := s.emn.scanQueue ++ [c] } else { s.emn with grant := none }) u ∧
        r'.static = r.static ∧ r'.tx = r.tx ∧ r'.snapshot = r.snapshot ∧ r'.rx = { r.rx with state := .locked } ∧
        r'.ident = (if r.ident.state = .opened then { r.ident with undecodedRun := 0 } else r.ident) ∧
        r'.scan = (if r.scan.state = .awaitLock then { r.scan with state := .pending } else r.scan) ∧
        r'.soak = (if st = .soak ∧ r.soak.state = .waiting ∧ s.swc.settleDelay = .stopped
                   then { r.soak with state := .counting, n := 0, e := 0 } else r.soak) ∧
        r'.stress = (if st = .stress ∧ r.stress.state = .waiting ∧ s.swc.settleDelay = .stopped
                     then { r.stress with state := .counting, n := 0, e := 0 } else r.stress))

/-- R138, R144 to R146, R151: the end of a scan's point, at 2^P compared bits: the next point of the step, the reading of a step that ends and the
first point of the next, CLOSED at the origin, COMPLETE at the end of DOWN_B. -/
def Obligations.ScanPointsEnd : Prop :=
  ∀ (s : State) (g : Grant) (d isOpen : Bool) (step : ScanStep) (rd : ScanReadings) (c : Chan), s.emn.grant = some g →
    c = g.channel → g.bits = 2 ^ s.swc.params.p → g.procedure = .scan step rd → isOpen = !g.disagreed →
    (∀ (step' : ScanStep) (rd' : ScanReadings) (pt : EyePoint),
      (step = .origin ∧ isOpen = true ∧ step' = .right ∧ rd' = rd ∧ pt = { phase := 1, threshold := 0, chop := .normal } ∨
       step ≠ .origin ∧ isOpen = true ∧ step.index g.point < step.last ∧ step' = step ∧ rd' = rd ∧
         pt = step.point (step.index g.point + 1) ∨
       step ≠ .origin ∧ isOpen = true ∧ step.last ≤ step.index g.point ∧ step.next = some step' ∧
         rd' = rd.put step (step.index g.point) ∧ pt = step'.point 1 ∨
       step ≠ .origin ∧ isOpen = false ∧ step.next = some step' ∧
         rd' = rd.put step (step.index g.point - 1) ∧ pt = step'.point 1) →
      exec (.pointEnd d) s = .next { s with emn := { s.emn with
        grant := some { channel := c, procedure := .scan step' rd', point := pt, bits := 0, disagreed := false } } }) ∧
    (step = .origin → isOpen = false → ∃ u, exec (.pointEnd d) s = .next (State.finish s (State.arbitrate u)) ∧
      s.ChanAndMonitor c { s.chan c with scan := { (s.chan c).scan with
        state := .settled, outcome := some .closed, figures := none } } { s.emn with grant := none } u) ∧
    (step = .downB → (isOpen = true → 31 ≤ step.index g.point) →
      ∃ u, exec (.pointEnd d) s = .next (State.finish s (State.arbitrate u)) ∧
      s.ChanAndMonitor c { s.chan c with scan := { (s.chan c).scan with
        state := .settled, outcome := some .complete
        figures := some (rd.put .downB (if isOpen = true then step.index g.point else step.index g.point - 1)).figures } }
        { s.emn with grant := none } u)

/-- R144, R145: the seven steps, their points and their readings, and the figures of a COMPLETE scan with their ranges. -/
def Obligations.ScanStepsAndFigures : Prop :=
  (∀ (k n : Nat) (rd : ScanReadings),
    ScanStep.right.point k = { phase := k, threshold := 0, chop := .normal } ∧
    ScanStep.left.point k = { phase := -(k : Int), threshold := 0, chop := .normal } ∧
    ScanStep.upA.point k = { phase := 0, threshold := k, chop := .normal } ∧
    ScanStep.downA.point k = { phase := 0, threshold := -(k : Int), chop := .normal } ∧
    ScanStep.upB.point k = { phase := 0, threshold := k, chop := .swapped } ∧
    ScanStep.downB.point k = { phase := 0, threshold := -(k : Int), chop := .swapped } ∧
    (∀ st : ScanStep, st ≠ .origin → st.index (st.point k) = k) ∧
    ScanStep.right.last = 31 ∧ ScanStep.left.last = 32 ∧ ScanStep.upA.last = 31 ∧ ScanStep.downA.last = 31 ∧
    ScanStep.upB.last = 31 ∧ ScanStep.downB.last = 31 ∧
    ScanStep.right.next = some .left ∧ ScanStep.left.next = some .upA ∧ ScanStep.upA.next = some .downA ∧
    ScanStep.downA.next = some .upB ∧ ScanStep.upB.next = some .downB ∧ ScanStep.downB.next = none ∧
    rd.put .right n = { rd with r := some (n + 1) } ∧ rd.put .left n = { rd with l := some n } ∧
    rd.put .upA n = { rd with upA := some n } ∧ rd.put .downA n = { rd with downA := some n } ∧
    rd.put .upB n = { rd with upB := some n } ∧ rd.put .downB n = { rd with downB := some n }) ∧
  (∀ (r l ua da ub db : Nat) (f : ScanFigures),
    f = ScanReadings.figures { r := some r, l := some l, upA := some ua, downA := some da, upB := some ub, downB := some db } →
    f.w = l + r ∧ f.h = (ua + da + ub + db) / 2 + 1 ∧
    (∃ a : Int, a = ((ub : Int) - ua) - ((db : Int) - da) ∧
      (0 ≤ a → 4 * f.o ≤ a ∧ a < 4 * f.o + 4) ∧ (a ≤ 0 → a ≤ 4 * f.o ∧ 4 * f.o < a + 4)) ∧
    (∃ a : Int, a = ((ua : Int) + ub) - ((da : Int) + db) ∧
      (0 ≤ a → 4 * f.c ≤ a ∧ a < 4 * f.c + 4) ∧ (a ≤ 0 → a ≤ 4 * f.c ∧ 4 * f.c < a + 4)) ∧
    (1 ≤ r → r ≤ 32 → l ≤ 32 → ua ≤ 31 → da ≤ 31 → ub ≤ 31 → db ≤ 31 →
      1 ≤ f.w ∧ f.w ≤ 64 ∧ 1 ≤ f.h ∧ f.h ≤ 63 ∧ -15 ≤ f.o ∧ f.o ≤ 15 ∧ -15 ≤ f.c ∧ f.c ≤ 15))

/-- R152: the grant decision. -/
def Obligations.GrantDecision : Prop :=
  ∀ s : State,
    (s.emn.grant ≠ none → s.arbitrate = s) ∧
    (s.emn.spotPending = [] → s.emn.scanQueue = [] → s.arbitrate = s) ∧
    (∀ c cs, s.emn.grant = none → s.emn.spotPending = c :: cs → s.emn.skip < 4 →
      s.ChanAndMonitor c { s.chan c with rx := { (s.chan c).rx with state := .spotRun } }
        { grant := some { channel := c, procedure := .spot none, point := { phase := 8, threshold := 0, chop := .normal }
                          bits := 0, disagreed := false }
          spotPending := cs, scanQueue := s.emn.scanQueue
          skip := if s.emn.scanQueue = [] then s.emn.skip else s.emn.skip + 1 } s.arbitrate) ∧
    (∀ c cs, s.emn.grant = none → (s.emn.spotPending = [] ∨ 4 ≤ s.emn.skip) → s.emn.scanQueue = c :: cs →
      s.ChanAndMonitor c { s.chan c with scan := { (s.chan c).scan with
          state := .granted, attempts := (s.chan c).scan.attempts + 1 } }
        { grant := some { channel := c
                          procedure := .scan .origin { r := none, l := none, upA := none, downA := none, upB := none
                                                       downB := none }
                          point := { phase := 0, threshold := 0, chop := .normal }, bits := 0, disagreed := false }
          spotPending := s.emn.spotPending, scanQueue := cs, skip := 0 } s.arbitrate)

/-! ### Verdicts and lamps -/

/-- R154 to R156: the channel verdict, the four steps in order. -/
def Obligations.ChannelVerdicts : Prop :=
  ∀ (p : Params) (r : Channel) (excused fails untested : Prop),
    (excused ↔ r.ident.cls = some .noPeer ∧ r.static.cls = some .openPair) →
    (fails ↔ r.static.cls = some .openPair ∨ r.static.cls = some .shortLow ∨ r.static.cls = some .shortHigh ∨
      r.static.cls = some .unstable ∨ r.static.bridged = true ∨
      r.ident.cls = some .laneSwap ∨ r.ident.cls = some .foreignPort ∨ r.ident.cls = some .wrongPeer ∨
      r.ident.cls = some .loopback ∨ r.ident.cls = some .unstable ∨ r.ident.cls = some .undecoded ∨
      r.ident.cls = some .silent ∨ r.ident.cls = some .noPeer ∨
      r.rx.invertedFlag = true ∨ r.ident.duplicate = true ∨ r.ident.sourceChanged = true ∨ r.rx.deadFlag = true ∨
      (∃ k, (k = r.soak ∨ k = r.stress) ∧ (k.outcome = some .failed ∨ k.outcome = some .lost ∨
        k.outcome = some .undersampled ∨ k.outcome = some .notRun)) ∨
      r.scan.outcome = some .closed ∨ r.scan.outcome = some .aborted ∨ r.scan.outcome = some .notRun ∨
      (r.scan.outcome = some .complete ∧ ∃ f, r.scan.figures = some f ∧ (f.w < p.wMin ∨ f.h < p.hMin))) →
    (untested ↔ r.static.cls = none ∨ r.ident.cls = some .untested ∨ r.ident.cls = none ∨
      (∃ k, (k = r.soak ∨ k = r.stress) ∧
        (k.outcome = some .halted ∨ k.outcome = some .untested ∨ k.outcome = none)) ∨
      r.scan.outcome = some .cut ∨ r.scan.outcome = some .untested ∨ r.scan.outcome = none) →
    (excused → r.verdict p = .excused) ∧ (¬excused → fails → r.verdict p = .fail) ∧
    (¬excused → ¬fails → untested → r.verdict p = .untested) ∧
    (¬excused → ¬fails → ¬untested → r.verdict p = .pass)

/-- R157, R158: the slot verdict, what both lamps are to show, and a blink that starts with its on half. -/
def Obligations.SlotVerdictsAndLamps : Prop :=
  (∀ (s : State) (fail untested : Prop),
    (fail ↔ (∃ c, s.inUse c = true ∧ (s.chan c).verdict s.swc.params = .fail) ∨ s.swc.flags.slotConflict = true) →
    (untested ↔ s.swc.haltReason ≠ .none ∨ ∃ c, s.inUse c = true ∧ (s.chan c).verdict s.swc.params = .untested) →
    (s.barred = true → s.slotVerdict = .barred) ∧
    (s.barred = false → fail → s.slotVerdict = .fail) ∧
    (s.barred = false → ¬fail → untested → s.slotVerdict = .incomplete) ∧
    (s.barred = false → ¬fail → ¬untested → s.slotVerdict = .pass) ∧
    (s.swc.station = .reset → s.lampPatterns = (.off, .off)) ∧
    (s.swc.station = .listen → s.swc.foreignSweep = false → s.lampPatterns = (.off, .off)) ∧
    (s.swc.station = .listen → s.swc.foreignSweep = true → s.lampPatterns = (.off, .blink .oneHz)) ∧
    ((∃ st, s.swc.station = .inStage st ∨ s.swc.station = .halted st) → s.lampPatterns = (.blink .twoHz, .off)) ∧
    (s.swc.station = .done → s.lampPatterns = s.slotVerdict.lamps) ∧
    (s.swc.station = .barred → s.lampPatterns = (.off, .steady))) ∧
  (∀ (l : Lamp) (p : LampPattern) (rate : BlinkRate), (l.take p).pattern = p ∧
    (l.pattern ≠ .blink rate → l.take (.blink rate) = .blink rate true) ∧
    (∀ lit, (Lamp.blink rate lit).take (.blink rate) = .blink rate lit))

/-! ### What holds at reset, and what every command keeps -/

/-- Every invariant of the model holds right after reset. -/
def Obligations.ResetIsWellFormed : Prop :=
 State.reset.Wf

/-- R20, R35 to R51, R65, R75: the two lines, their timers and the probe stand as the station state says, and a station holds
CB_STEP only while its stage's release condition does not hold. -/
def Obligations.LinesKept : Prop :=
  (∀ (c : Instr) (s t : State), s.LinesWf → exec c s = .next t → t.LinesWf) ∧
  (∀ (c : Instr) (s t : State), s.LinesWf → s.HoldingWf → exec c s = .next t → t.HoldingWf)

/-- R2, R3, R14, R15, R19, R30: the identity, the parameters in range, the halt reason and the foreign-sweep indication. -/
def Obligations.ControlKept : Prop :=
  ∀ (c : Instr) (s t : State), s.IdentityWf → s.ControlWf → exec c s = .next t → t.IdentityWf ∧ t.ControlWf

/-- R28, R79, R84, R102 to R109, R118, R122, R133: every transmitter is as the station state asks, and both counts and the
identification items of every channel stand as their state says. -/
def Obligations.TransmittersAndItemsKept : Prop :=
  (∀ (c : Instr) (s t : State), s.LinesWf → s.TransmittersWf → exec c s = .next t → t.TransmittersWf) ∧
  (∀ (c : Instr) (s t : State), s.CountsWf → exec c s = .next t → t.CountsWf) ∧
  (∀ (c : Instr) (s t : State), s.IdentsWf → exec c s = .next t → t.IdentsWf)

/-- R52, R159, R160, R171: the Peer List in ascending slot order, never with the own slot; the Outbound Queue with no entry twice,
and the frame on the line its head's, with the receiver inside it. -/
def Obligations.PeersAndQueueKept : Prop :=
  (∀ (c : Instr) (s t : State), s.LinesWf → s.PeersWf → exec c s = .next t → t.PeersWf) ∧
  (∀ (c : Instr) (s t : State), s.LinesWf → s.QueueWf → exec c s = .next t → t.QueueWf)

/-- R26, R85, R86, R95, R96, R134, R135, R138, R151, R152: the receivers and the arbiter's requests and grant agree. SettledWf rules out
a released station of STRESS with an open scan, which no run reaches (R26). That a receiver holds a checker reference exactly while
it follows (notes/assumptions/11.md) and that an unused channel holds the initial record (notes/assumptions/19.md) are the model's. -/
def Obligations.LanesAndMonitorKept : Prop :=
  ∀ (c : Instr) (s t : State), s.LinesWf → s.LanesWf → s.MonitorWf → s.SettledWf → exec c s = .next t →
    t.LanesWf ∧ t.MonitorWf

/-- R20, R31, R127, R133, R150, R158: what a station has left behind or released is settled on every in-use channel, and both
lamps show what the station state, the foreign-sweep indication and the slot verdict call for. -/
def Obligations.SettledAndLampsKept : Prop :=
  (∀ (c : Instr) (s t : State), s.Wf → exec c s = .next t → t.SettledWf) ∧
  (∀ (c : Instr) (s t : State), s.Wf → exec c s = .next t → t.LampsWf)

/-- The invariants together, for a step from any state that has them. That a receiver holds a checker reference exactly while it
follows (notes/assumptions/11.md) and that an unused channel holds the initial record (notes/assumptions/19.md) are the model's. -/
def Obligations.EveryStepKeepsWellFormed : Prop :=
  ∀ s t : State, s.Wf → step s = .next t → t.Wf

end
end

