-- ==== Sys2Proof/Laws/State.lean ====
section
/-! SUPPORT. What each update of State does to each field: one lemma per field per update, true by rfl. -/
namespace Sys2Proof.Machine.State

/-! ### mapSwc -/

@[simp] theorem mapSwc_identity (f : Swc → Swc) (s : State) : (s.mapSwc f).identity = s.identity := rfl
@[simp] theorem mapSwc_swc (f : Swc → Swc) (s : State) : (s.mapSwc f).swc = f s.swc := rfl
@[simp] theorem mapSwc_lif (f : Swc → Swc) (s : State) : (s.mapSwc f).lif = s.lif := rfl
@[simp] theorem mapSwc_spu (f : Swc → Swc) (s : State) : (s.mapSwc f).spu = s.spu := rfl
@[simp] theorem mapSwc_channels (f : Swc → Swc) (s : State) : (s.mapSwc f).channels = s.channels := rfl
@[simp] theorem mapSwc_emn (f : Swc → Swc) (s : State) : (s.mapSwc f).emn = s.emn := rfl
@[simp] theorem mapSwc_peers (f : Swc → Swc) (s : State) : (s.mapSwc f).peers = s.peers := rfl
@[simp] theorem mapSwc_cfe (f : Swc → Swc) (s : State) : (s.mapSwc f).cfe = s.cfe := rfl
@[simp] theorem mapSwc_pending (f : Swc → Swc) (s : State) : (s.mapSwc f).pending = s.pending := rfl

/-! ### mapLif -/

@[simp] theorem mapLif_identity (f : Lif → Lif) (s : State) : (s.mapLif f).identity = s.identity := rfl
@[simp] theorem mapLif_swc (f : Lif → Lif) (s : State) : (s.mapLif f).swc = s.swc := rfl
@[simp] theorem mapLif_lif (f : Lif → Lif) (s : State) : (s.mapLif f).lif = f s.lif := rfl
@[simp] theorem mapLif_spu (f : Lif → Lif) (s : State) : (s.mapLif f).spu = s.spu := rfl
@[simp] theorem mapLif_channels (f : Lif → Lif) (s : State) : (s.mapLif f).channels = s.channels := rfl
@[simp] theorem mapLif_emn (f : Lif → Lif) (s : State) : (s.mapLif f).emn = s.emn := rfl
@[simp] theorem mapLif_peers (f : Lif → Lif) (s : State) : (s.mapLif f).peers = s.peers := rfl
@[simp] theorem mapLif_cfe (f : Lif → Lif) (s : State) : (s.mapLif f).cfe = s.cfe := rfl
@[simp] theorem mapLif_pending (f : Lif → Lif) (s : State) : (s.mapLif f).pending = s.pending := rfl

/-! ### mapEmn -/

@[simp] theorem mapEmn_identity (f : Emn → Emn) (s : State) : (s.mapEmn f).identity = s.identity := rfl
@[simp] theorem mapEmn_swc (f : Emn → Emn) (s : State) : (s.mapEmn f).swc = s.swc := rfl
@[simp] theorem mapEmn_lif (f : Emn → Emn) (s : State) : (s.mapEmn f).lif = s.lif := rfl
@[simp] theorem mapEmn_spu (f : Emn → Emn) (s : State) : (s.mapEmn f).spu = s.spu := rfl
@[simp] theorem mapEmn_channels (f : Emn → Emn) (s : State) : (s.mapEmn f).channels = s.channels := rfl
@[simp] theorem mapEmn_emn (f : Emn → Emn) (s : State) : (s.mapEmn f).emn = f s.emn := rfl
@[simp] theorem mapEmn_peers (f : Emn → Emn) (s : State) : (s.mapEmn f).peers = s.peers := rfl
@[simp] theorem mapEmn_cfe (f : Emn → Emn) (s : State) : (s.mapEmn f).cfe = s.cfe := rfl
@[simp] theorem mapEmn_pending (f : Emn → Emn) (s : State) : (s.mapEmn f).pending = s.pending := rfl

/-! ### mapCfe -/

@[simp] theorem mapCfe_identity (f : Cfe → Cfe) (s : State) : (s.mapCfe f).identity = s.identity := rfl
@[simp] theorem mapCfe_swc (f : Cfe → Cfe) (s : State) : (s.mapCfe f).swc = s.swc := rfl
@[simp] theorem mapCfe_lif (f : Cfe → Cfe) (s : State) : (s.mapCfe f).lif = s.lif := rfl
@[simp] theorem mapCfe_spu (f : Cfe → Cfe) (s : State) : (s.mapCfe f).spu = s.spu := rfl
@[simp] theorem mapCfe_channels (f : Cfe → Cfe) (s : State) : (s.mapCfe f).channels = s.channels := rfl
@[simp] theorem mapCfe_emn (f : Cfe → Cfe) (s : State) : (s.mapCfe f).emn = s.emn := rfl
@[simp] theorem mapCfe_peers (f : Cfe → Cfe) (s : State) : (s.mapCfe f).peers = s.peers := rfl
@[simp] theorem mapCfe_cfe (f : Cfe → Cfe) (s : State) : (s.mapCfe f).cfe = f s.cfe := rfl
@[simp] theorem mapCfe_pending (f : Cfe → Cfe) (s : State) : (s.mapCfe f).pending = s.pending := rfl

/-! ### setSpu -/

@[simp] theorem setSpu_identity (x : Spu) (s : State) : (s.setSpu x).identity = s.identity := rfl
@[simp] theorem setSpu_swc (x : Spu) (s : State) : (s.setSpu x).swc = s.swc := rfl
@[simp] theorem setSpu_lif (x : Spu) (s : State) : (s.setSpu x).lif = s.lif := rfl
@[simp] theorem setSpu_spu (x : Spu) (s : State) : (s.setSpu x).spu = x := rfl
@[simp] theorem setSpu_channels (x : Spu) (s : State) : (s.setSpu x).channels = s.channels := rfl
@[simp] theorem setSpu_emn (x : Spu) (s : State) : (s.setSpu x).emn = s.emn := rfl
@[simp] theorem setSpu_peers (x : Spu) (s : State) : (s.setSpu x).peers = s.peers := rfl
@[simp] theorem setSpu_cfe (x : Spu) (s : State) : (s.setSpu x).cfe = s.cfe := rfl
@[simp] theorem setSpu_pending (x : Spu) (s : State) : (s.setSpu x).pending = s.pending := rfl

/-! ### setPeers -/

@[simp] theorem setPeers_identity (ps : List PeerEntry) (s : State) : (s.setPeers ps).identity = s.identity := rfl
@[simp] theorem setPeers_swc (ps : List PeerEntry) (s : State) : (s.setPeers ps).swc = s.swc := rfl
@[simp] theorem setPeers_lif (ps : List PeerEntry) (s : State) : (s.setPeers ps).lif = s.lif := rfl
@[simp] theorem setPeers_spu (ps : List PeerEntry) (s : State) : (s.setPeers ps).spu = s.spu := rfl
@[simp] theorem setPeers_channels (ps : List PeerEntry) (s : State) : (s.setPeers ps).channels = s.channels := rfl
@[simp] theorem setPeers_emn (ps : List PeerEntry) (s : State) : (s.setPeers ps).emn = s.emn := rfl
@[simp] theorem setPeers_peers (ps : List PeerEntry) (s : State) : (s.setPeers ps).peers = ps := rfl
@[simp] theorem setPeers_cfe (ps : List PeerEntry) (s : State) : (s.setPeers ps).cfe = s.cfe := rfl
@[simp] theorem setPeers_pending (ps : List PeerEntry) (s : State) : (s.setPeers ps).pending = s.pending := rfl

/-! ### setFlags -/

@[simp] theorem setFlags_identity (f : StationFlags → StationFlags) (s : State) :
    (s.setFlags f).identity = s.identity := rfl
@[simp] theorem setFlags_swc (f : StationFlags → StationFlags) (s : State) :
    (s.setFlags f).swc = { s.swc with flags := f s.swc.flags } := rfl
@[simp] theorem setFlags_lif (f : StationFlags → StationFlags) (s : State) : (s.setFlags f).lif = s.lif := rfl
@[simp] theorem setFlags_spu (f : StationFlags → StationFlags) (s : State) : (s.setFlags f).spu = s.spu := rfl
@[simp] theorem setFlags_channels (f : StationFlags → StationFlags) (s : State) :
    (s.setFlags f).channels = s.channels := rfl
@[simp] theorem setFlags_emn (f : StationFlags → StationFlags) (s : State) : (s.setFlags f).emn = s.emn := rfl
@[simp] theorem setFlags_peers (f : StationFlags → StationFlags) (s : State) : (s.setFlags f).peers = s.peers := rfl
@[simp] theorem setFlags_cfe (f : StationFlags → StationFlags) (s : State) : (s.setFlags f).cfe = s.cfe := rfl
@[simp] theorem setFlags_pending (f : StationFlags → StationFlags) (s : State) :
    (s.setFlags f).pending = s.pending := rfl

/-! ### mapChan -/

@[simp] theorem mapChan_identity (c : Chan) (f : Channel → Channel) (s : State) :
    (s.mapChan c f).identity = s.identity := rfl
@[simp] theorem mapChan_swc (c : Chan) (f : Channel → Channel) (s : State) : (s.mapChan c f).swc = s.swc := rfl
@[simp] theorem mapChan_lif (c : Chan) (f : Channel → Channel) (s : State) : (s.mapChan c f).lif = s.lif := rfl
@[simp] theorem mapChan_spu (c : Chan) (f : Channel → Channel) (s : State) : (s.mapChan c f).spu = s.spu := rfl
@[simp] theorem mapChan_channels (c : Chan) (f : Channel → Channel) (s : State) :
    (s.mapChan c f).channels = s.channels.set c.val (f (s.chan c)) c.isLt := rfl
@[simp] theorem mapChan_emn (c : Chan) (f : Channel → Channel) (s : State) : (s.mapChan c f).emn = s.emn := rfl
@[simp] theorem mapChan_peers (c : Chan) (f : Channel → Channel) (s : State) : (s.mapChan c f).peers = s.peers := rfl
@[simp] theorem mapChan_cfe (c : Chan) (f : Channel → Channel) (s : State) : (s.mapChan c f).cfe = s.cfe := rfl
@[simp] theorem mapChan_pending (c : Chan) (f : Channel → Channel) (s : State) :
    (s.mapChan c f).pending = s.pending := rfl

/-! ### mapInUse -/

@[simp] theorem mapInUse_identity (f : Chan → Channel → Channel) (s : State) :
    (s.mapInUse f).identity = s.identity := rfl
@[simp] theorem mapInUse_swc (f : Chan → Channel → Channel) (s : State) : (s.mapInUse f).swc = s.swc := rfl
@[simp] theorem mapInUse_lif (f : Chan → Channel → Channel) (s : State) : (s.mapInUse f).lif = s.lif := rfl
@[simp] theorem mapInUse_spu (f : Chan → Channel → Channel) (s : State) : (s.mapInUse f).spu = s.spu := rfl
@[simp] theorem mapInUse_channels (f : Chan → Channel → Channel) (s : State) :
    (s.mapInUse f).channels = s.inUseMapped f := rfl
@[simp] theorem mapInUse_emn (f : Chan → Channel → Channel) (s : State) : (s.mapInUse f).emn = s.emn := rfl
@[simp] theorem mapInUse_peers (f : Chan → Channel → Channel) (s : State) : (s.mapInUse f).peers = s.peers := rfl
@[simp] theorem mapInUse_cfe (f : Chan → Channel → Channel) (s : State) : (s.mapInUse f).cfe = s.cfe := rfl
@[simp] theorem mapInUse_pending (f : Chan → Channel → Channel) (s : State) :
    (s.mapInUse f).pending = s.pending := rfl

/-! ### Views of State that an update leaves alone -/

@[simp] theorem mapSwc_ownSlot (f : Swc → Swc) (s : State) : (s.mapSwc f).ownSlot = s.ownSlot := rfl
@[simp] theorem mapSwc_barred (f : Swc → Swc) (s : State) : (s.mapSwc f).barred = s.barred := rfl
@[simp] theorem mapSwc_stopAll (f : Swc → Swc) (s : State) : (s.mapSwc f).stopAll = s.stopAll := rfl
@[simp] theorem mapSwc_inUseChans (f : Swc → Swc) (s : State) : (s.mapSwc f).inUseChans = s.inUseChans := rfl
@[simp] theorem mapSwc_inUse (f : Swc → Swc) (s : State) (d : Chan) : (s.mapSwc f).inUse d = s.inUse d := rfl
@[simp] theorem mapSwc_expectedSource (f : Swc → Swc) (s : State) (d : Chan) : (s.mapSwc f).expectedSource d = s.expectedSource d := rfl
@[simp] theorem mapSwc_expectedCount (f : Swc → Swc) (s : State) (q : Nat) : (s.mapSwc f).expectedCount q = s.expectedCount q := rfl
@[simp] theorem mapSwc_chan (f : Swc → Swc) (s : State) (d : Chan) : (s.mapSwc f).chan d = s.chan d := rfl
@[simp] theorem mapSwc_peer (f : Swc → Swc) (s : State) (q : Nat) : (s.mapSwc f).peer q = s.peer q := rfl
@[simp] theorem mapLif_ownSlot (f : Lif → Lif) (s : State) : (s.mapLif f).ownSlot = s.ownSlot := rfl
@[simp] theorem mapLif_barred (f : Lif → Lif) (s : State) : (s.mapLif f).barred = s.barred := rfl
@[simp] theorem mapLif_stopAll (f : Lif → Lif) (s : State) : (s.mapLif f).stopAll = s.stopAll := rfl
@[simp] theorem mapLif_inUseChans (f : Lif → Lif) (s : State) : (s.mapLif f).inUseChans = s.inUseChans := rfl
@[simp] theorem mapLif_inUse (f : Lif → Lif) (s : State) (d : Chan) : (s.mapLif f).inUse d = s.inUse d := rfl
@[simp] theorem mapLif_expectedSource (f : Lif → Lif) (s : State) (d : Chan) : (s.mapLif f).expectedSource d = s.expectedSource d := rfl
@[simp] theorem mapLif_expectedCount (f : Lif → Lif) (s : State) (q : Nat) : (s.mapLif f).expectedCount q = s.expectedCount q := rfl
@[simp] theorem mapLif_chan (f : Lif → Lif) (s : State) (d : Chan) : (s.mapLif f).chan d = s.chan d := rfl
@[simp] theorem mapLif_peer (f : Lif → Lif) (s : State) (q : Nat) : (s.mapLif f).peer q = s.peer q := rfl
@[simp] theorem mapEmn_ownSlot (f : Emn → Emn) (s : State) : (s.mapEmn f).ownSlot = s.ownSlot := rfl
@[simp] theorem mapEmn_barred (f : Emn → Emn) (s : State) : (s.mapEmn f).barred = s.barred := rfl
@[simp] theorem mapEmn_stopAll (f : Emn → Emn) (s : State) : (s.mapEmn f).stopAll = s.stopAll := rfl
@[simp] theorem mapEmn_inUseChans (f : Emn → Emn) (s : State) : (s.mapEmn f).inUseChans = s.inUseChans := rfl
@[simp] theorem mapEmn_inUse (f : Emn → Emn) (s : State) (d : Chan) : (s.mapEmn f).inUse d = s.inUse d := rfl
@[simp] theorem mapEmn_expectedSource (f : Emn → Emn) (s : State) (d : Chan) : (s.mapEmn f).expectedSource d = s.expectedSource d := rfl
@[simp] theorem mapEmn_expectedCount (f : Emn → Emn) (s : State) (q : Nat) : (s.mapEmn f).expectedCount q = s.expectedCount q := rfl
@[simp] theorem mapEmn_chan (f : Emn → Emn) (s : State) (d : Chan) : (s.mapEmn f).chan d = s.chan d := rfl
@[simp] theorem mapEmn_peer (f : Emn → Emn) (s : State) (q : Nat) : (s.mapEmn f).peer q = s.peer q := rfl
@[simp] theorem mapCfe_ownSlot (f : Cfe → Cfe) (s : State) : (s.mapCfe f).ownSlot = s.ownSlot := rfl
@[simp] theorem mapCfe_barred (f : Cfe → Cfe) (s : State) : (s.mapCfe f).barred = s.barred := rfl
@[simp] theorem mapCfe_stopAll (f : Cfe → Cfe) (s : State) : (s.mapCfe f).stopAll = s.stopAll := rfl
@[simp] theorem mapCfe_inUseChans (f : Cfe → Cfe) (s : State) : (s.mapCfe f).inUseChans = s.inUseChans := rfl
@[simp] theorem mapCfe_inUse (f : Cfe → Cfe) (s : State) (d : Chan) : (s.mapCfe f).inUse d = s.inUse d := rfl
@[simp] theorem mapCfe_expectedSource (f : Cfe → Cfe) (s : State) (d : Chan) : (s.mapCfe f).expectedSource d = s.expectedSource d := rfl
@[simp] theorem mapCfe_expectedCount (f : Cfe → Cfe) (s : State) (q : Nat) : (s.mapCfe f).expectedCount q = s.expectedCount q := rfl
@[simp] theorem mapCfe_chan (f : Cfe → Cfe) (s : State) (d : Chan) : (s.mapCfe f).chan d = s.chan d := rfl
@[simp] theorem mapCfe_peer (f : Cfe → Cfe) (s : State) (q : Nat) : (s.mapCfe f).peer q = s.peer q := rfl
@[simp] theorem setSpu_ownSlot (x : Spu) (s : State) : (s.setSpu x).ownSlot = s.ownSlot := rfl
@[simp] theorem setSpu_barred (x : Spu) (s : State) : (s.setSpu x).barred = s.barred := rfl
@[simp] theorem setSpu_stopAll (x : Spu) (s : State) : (s.setSpu x).stopAll = s.stopAll := rfl
@[simp] theorem setSpu_inUseChans (x : Spu) (s : State) : (s.setSpu x).inUseChans = s.inUseChans := rfl
@[simp] theorem setSpu_inUse (x : Spu) (s : State) (d : Chan) : (s.setSpu x).inUse d = s.inUse d := rfl
@[simp] theorem setSpu_expectedSource (x : Spu) (s : State) (d : Chan) : (s.setSpu x).expectedSource d = s.expectedSource d := rfl
@[simp] theorem setSpu_expectedCount (x : Spu) (s : State) (q : Nat) : (s.setSpu x).expectedCount q = s.expectedCount q := rfl
@[simp] theorem setSpu_chan (x : Spu) (s : State) (d : Chan) : (s.setSpu x).chan d = s.chan d := rfl
@[simp] theorem setSpu_peer (x : Spu) (s : State) (q : Nat) : (s.setSpu x).peer q = s.peer q := rfl
@[simp] theorem setPeers_ownSlot (ps : List PeerEntry) (s : State) : (s.setPeers ps).ownSlot = s.ownSlot := rfl
@[simp] theorem setPeers_barred (ps : List PeerEntry) (s : State) : (s.setPeers ps).barred = s.barred := rfl
@[simp] theorem setPeers_stopAll (ps : List PeerEntry) (s : State) : (s.setPeers ps).stopAll = s.stopAll := rfl
@[simp] theorem setPeers_inUseChans (ps : List PeerEntry) (s : State) : (s.setPeers ps).inUseChans = s.inUseChans := rfl
@[simp] theorem setPeers_inUse (ps : List PeerEntry) (s : State) (d : Chan) : (s.setPeers ps).inUse d = s.inUse d := rfl
@[simp] theorem setPeers_expectedSource (ps : List PeerEntry) (s : State) (d : Chan) : (s.setPeers ps).expectedSource d = s.expectedSource d := rfl
@[simp] theorem setPeers_expectedCount (ps : List PeerEntry) (s : State) (q : Nat) : (s.setPeers ps).expectedCount q = s.expectedCount q := rfl
@[simp] theorem setPeers_chan (ps : List PeerEntry) (s : State) (d : Chan) : (s.setPeers ps).chan d = s.chan d := rfl
@[simp] theorem setFlags_ownSlot (f : StationFlags → StationFlags) (s : State) : (s.setFlags f).ownSlot = s.ownSlot := rfl
@[simp] theorem setFlags_barred (f : StationFlags → StationFlags) (s : State) : (s.setFlags f).barred = s.barred := rfl
@[simp] theorem setFlags_stopAll (f : StationFlags → StationFlags) (s : State) : (s.setFlags f).stopAll = s.stopAll := rfl
@[simp] theorem setFlags_inUseChans (f : StationFlags → StationFlags) (s : State) : (s.setFlags f).inUseChans = s.inUseChans := rfl
@[simp] theorem setFlags_inUse (f : StationFlags → StationFlags) (s : State) (d : Chan) : (s.setFlags f).inUse d = s.inUse d := rfl
@[simp] theorem setFlags_expectedSource (f : StationFlags → StationFlags) (s : State) (d : Chan) : (s.setFlags f).expectedSource d = s.expectedSource d := rfl
@[simp] theorem setFlags_expectedCount (f : StationFlags → StationFlags) (s : State) (q : Nat) : (s.setFlags f).expectedCount q = s.expectedCount q := rfl
@[simp] theorem setFlags_chan (f : StationFlags → StationFlags) (s : State) (d : Chan) : (s.setFlags f).chan d = s.chan d := rfl
@[simp] theorem setFlags_peer (f : StationFlags → StationFlags) (s : State) (q : Nat) : (s.setFlags f).peer q = s.peer q := rfl
@[simp] theorem mapChan_ownSlot (c : Chan) (f : Channel → Channel) (s : State) : (s.mapChan c f).ownSlot = s.ownSlot := rfl
@[simp] theorem mapChan_barred (c : Chan) (f : Channel → Channel) (s : State) : (s.mapChan c f).barred = s.barred := rfl
@[simp] theorem mapChan_stopAll (c : Chan) (f : Channel → Channel) (s : State) : (s.mapChan c f).stopAll = s.stopAll := rfl
@[simp] theorem mapChan_inUseChans (c : Chan) (f : Channel → Channel) (s : State) : (s.mapChan c f).inUseChans = s.inUseChans := rfl
@[simp] theorem mapChan_inUse (c : Chan) (f : Channel → Channel) (s : State) (d : Chan) : (s.mapChan c f).inUse d = s.inUse d := rfl
@[simp] theorem mapChan_expectedSource (c : Chan) (f : Channel → Channel) (s : State) (d : Chan) : (s.mapChan c f).expectedSource d = s.expectedSource d := rfl
@[simp] theorem mapChan_expectedCount (c : Chan) (f : Channel → Channel) (s : State) (q : Nat) : (s.mapChan c f).expectedCount q = s.expectedCount q := rfl
@[simp] theorem mapChan_peer (c : Chan) (f : Channel → Channel) (s : State) (q : Nat) : (s.mapChan c f).peer q = s.peer q := rfl
@[simp] theorem mapInUse_ownSlot (f : Chan → Channel → Channel) (s : State) : (s.mapInUse f).ownSlot = s.ownSlot := rfl
@[simp] theorem mapInUse_barred (f : Chan → Channel → Channel) (s : State) : (s.mapInUse f).barred = s.barred := rfl
@[simp] theorem mapInUse_stopAll (f : Chan → Channel → Channel) (s : State) : (s.mapInUse f).stopAll = s.stopAll := rfl
@[simp] theorem mapInUse_inUseChans (f : Chan → Channel → Channel) (s : State) : (s.mapInUse f).inUseChans = s.inUseChans := rfl
@[simp] theorem mapInUse_inUse (f : Chan → Channel → Channel) (s : State) (d : Chan) : (s.mapInUse f).inUse d = s.inUse d := rfl
@[simp] theorem mapInUse_expectedSource (f : Chan → Channel → Channel) (s : State) (d : Chan) : (s.mapInUse f).expectedSource d = s.expectedSource d := rfl
@[simp] theorem mapInUse_expectedCount (f : Chan → Channel → Channel) (s : State) (q : Nat) : (s.mapInUse f).expectedCount q = s.expectedCount q := rfl
@[simp] theorem mapInUse_peer (f : Chan → Channel → Channel) (s : State) (q : Nat) : (s.mapInUse f).peer q = s.peer q := rfl

/-! ### Reading a record after an update -/

/-- The changed channel holds the changed record. -/
@[simp] theorem mapChan_chan_self (c : Chan) (f : Channel → Channel) (s : State) :
    (s.mapChan c f).chan c = f (s.chan c) := by
  simp [chan]

/-- Every other channel's record is unchanged. -/
theorem mapChan_chan_other {c d : Chan} (h : d ≠ c) (f : Channel → Channel) (s : State) :
    (s.mapChan c f).chan d = s.chan d := by
  have h' : c.val ≠ d.val := fun e => h (Fin.ext e.symm)
  simp [chan, h']

/-- Both cases of reading a record after a change of one. -/
theorem mapChan_chan (c d : Chan) (f : Channel → Channel) (s : State) :
    (s.mapChan c f).chan d = if d = c then f (s.chan d) else s.chan d := by
  by_cases h : d = c
  · subst h; simp
  · simp [mapChan_chan_other h, h]

/-- A change of every in-use record reaches exactly the in-use channels. -/
theorem mapInUse_chan (f : Chan → Channel → Channel) (s : State) (d : Chan) :
    (s.mapInUse f).chan d = if s.inUse d then f d (s.chan d) else s.chan d := by
  simp [chan, inUseMapped]

/-- An in-use channel holds the changed record. -/
theorem mapInUse_chan_inUse {s : State} {d : Chan} (h : s.inUse d = true) (f : Chan → Channel → Channel) :
    (s.mapInUse f).chan d = f d (s.chan d) := by
  simp [mapInUse_chan, h]

/-- An unused channel's place is unchanged. -/
theorem mapInUse_chan_unused {s : State} {d : Chan} (h : s.inUse d = false) (f : Chan → Channel → Channel) :
    (s.mapInUse f).chan d = s.chan d := by
  simp [mapInUse_chan, h]

/-- A channel is listed among the in-use channels exactly when it is in use. -/
@[simp] theorem mem_inUseChans (s : State) (d : Chan) : d ∈ s.inUseChans ↔ s.inUse d = true := by
  simp [inUseChans]

/-- Two states are equal when their fields are. -/
theorem ext_fields {s t : State} (h1 : s.identity = t.identity) (h2 : s.swc = t.swc) (h3 : s.lif = t.lif)
    (h4 : s.spu = t.spu) (h5 : s.channels = t.channels) (h6 : s.emn = t.emn) (h7 : s.peers = t.peers)
    (h8 : s.cfe = t.cfe) (h9 : s.pending = t.pending) : s = t := by
  cases s; cases t; simp_all

end Sys2Proof.Machine.State
end

