-- ==== Sys2Proof/Laws/Ops.lean ====
section
/-! SUPPORT. What each shared operation can do: the fields it leaves alone, and the few shapes of its answer. -/
namespace Sys2Proof.Machine.State

/-! ### Lamps -/

@[simp] theorem refreshLamps_identity (s : State) : s.refreshLamps.identity = s.identity := rfl
@[simp] theorem refreshLamps_lif (s : State) : s.refreshLamps.lif = s.lif := rfl
@[simp] theorem refreshLamps_spu (s : State) : s.refreshLamps.spu = s.spu := rfl
@[simp] theorem refreshLamps_channels (s : State) : s.refreshLamps.channels = s.channels := rfl
@[simp] theorem refreshLamps_chan (s : State) (c : Chan) : s.refreshLamps.chan c = s.chan c := rfl
@[simp] theorem refreshLamps_emn (s : State) : s.refreshLamps.emn = s.emn := rfl
@[simp] theorem refreshLamps_peers (s : State) : s.refreshLamps.peers = s.peers := rfl
@[simp] theorem refreshLamps_cfe (s : State) : s.refreshLamps.cfe = s.cfe := rfl
@[simp] theorem refreshLamps_pending (s : State) : s.refreshLamps.pending = s.pending := rfl
@[simp] theorem refreshLamps_inUse (s : State) (c : Chan) : s.refreshLamps.inUse c = s.inUse c := rfl
@[simp] theorem refreshLamps_station (s : State) : s.refreshLamps.swc.station = s.swc.station := rfl
@[simp] theorem refreshLamps_params (s : State) : s.refreshLamps.swc.params = s.swc.params := rfl
@[simp] theorem refreshLamps_released (s : State) : s.refreshLamps.swc.released = s.swc.released := rfl
@[simp] theorem refreshLamps_haltReason (s : State) : s.refreshLamps.swc.haltReason = s.swc.haltReason := rfl
@[simp] theorem refreshLamps_flags (s : State) : s.refreshLamps.swc.flags = s.swc.flags := rfl
@[simp] theorem refreshLamps_foreignSweep (s : State) : s.refreshLamps.swc.foreignSweep = s.swc.foreignSweep := rfl
@[simp] theorem refreshLamps_stageTimer (s : State) : s.refreshLamps.swc.stageTimer = s.swc.stageTimer := rfl
@[simp] theorem refreshLamps_limitExpired (s : State) : s.refreshLamps.swc.limitExpired = s.swc.limitExpired := rfl
@[simp] theorem refreshLamps_settleDelay (s : State) : s.refreshLamps.swc.settleDelay = s.swc.settleDelay := rfl

/-! ### Release -/

@[simp] theorem release_identity (s : State) : s.release.identity = s.identity := rfl
@[simp] theorem release_spu (s : State) : s.release.spu = s.spu := rfl
@[simp] theorem release_channels (s : State) : s.release.channels = s.channels := rfl
@[simp] theorem release_chan (s : State) (c : Chan) : s.release.chan c = s.chan c := rfl
@[simp] theorem release_emn (s : State) : s.release.emn = s.emn := rfl
@[simp] theorem release_peers (s : State) : s.release.peers = s.peers := rfl
@[simp] theorem release_cfe (s : State) : s.release.cfe = s.cfe := rfl
@[simp] theorem release_pending (s : State) : s.release.pending = s.pending := rfl
@[simp] theorem release_swc (s : State) : s.release.swc = { s.swc with released := true, stageTimer := .stopped } := rfl
@[simp] theorem release_lif (s : State) : s.release.lif = s.lif.releaseStep (msToUs s.swc.params.barrierMs) := rfl

/-- A release is signalled or nothing happens. -/
theorem tryRelease_cases (s : State) :
    s.tryRelease = s ∨
      (s.tryRelease = s.release ∧ s.lif.phase = .holding ∧ s.swc.released = false ∧ s.releaseReady = true) := by
  unfold tryRelease
  split
  · rename_i h; exact Or.inr ⟨rfl, h⟩
  · exact Or.inl rfl

/-- A condition that holds under a pull in place is signalled. -/
theorem tryRelease_of_ready {s : State} (h1 : s.lif.phase = .holding) (h2 : s.swc.released = false)
    (h3 : s.releaseReady = true) : s.tryRelease = s.release := by
  simp [tryRelease, h1, h2, h3]

/-- A condition that does not hold is not signalled. -/
theorem tryRelease_of_not_ready {s : State} (h : s.releaseReady = false) : s.tryRelease = s := by
  simp [tryRelease, h]

/-- Without a pull in place nothing is signalled. -/
theorem tryRelease_of_not_holding {s : State} (h : s.lif.phase ≠ .holding) : s.tryRelease = s := by
  simp [tryRelease, h]

@[simp] theorem tryRelease_identity (s : State) : s.tryRelease.identity = s.identity := by
  rcases s.tryRelease_cases with h | ⟨h, -⟩ <;> simp [h]
@[simp] theorem tryRelease_spu (s : State) : s.tryRelease.spu = s.spu := by
  rcases s.tryRelease_cases with h | ⟨h, -⟩ <;> simp [h]
@[simp] theorem tryRelease_channels (s : State) : s.tryRelease.channels = s.channels := by
  rcases s.tryRelease_cases with h | ⟨h, -⟩ <;> simp [h]
@[simp] theorem tryRelease_chan (s : State) (c : Chan) : s.tryRelease.chan c = s.chan c := by
  rcases s.tryRelease_cases with h | ⟨h, -⟩ <;> simp [h]
@[simp] theorem tryRelease_emn (s : State) : s.tryRelease.emn = s.emn := by
  rcases s.tryRelease_cases with h | ⟨h, -⟩ <;> simp [h]
@[simp] theorem tryRelease_peers (s : State) : s.tryRelease.peers = s.peers := by
  rcases s.tryRelease_cases with h | ⟨h, -⟩ <;> simp [h]
@[simp] theorem tryRelease_cfe (s : State) : s.tryRelease.cfe = s.cfe := by
  rcases s.tryRelease_cases with h | ⟨h, -⟩ <;> simp [h]
@[simp] theorem tryRelease_pending (s : State) : s.tryRelease.pending = s.pending := by
  rcases s.tryRelease_cases with h | ⟨h, -⟩ <;> simp [h]
@[simp] theorem tryRelease_station (s : State) : s.tryRelease.swc.station = s.swc.station := by
  rcases s.tryRelease_cases with h | ⟨h, -⟩ <;> simp [h]
@[simp] theorem tryRelease_params (s : State) : s.tryRelease.swc.params = s.swc.params := by
  rcases s.tryRelease_cases with h | ⟨h, -⟩ <;> simp [h]
@[simp] theorem tryRelease_haltReason (s : State) : s.tryRelease.swc.haltReason = s.swc.haltReason := by
  rcases s.tryRelease_cases with h | ⟨h, -⟩ <;> simp [h]
@[simp] theorem tryRelease_flags (s : State) : s.tryRelease.swc.flags = s.swc.flags := by
  rcases s.tryRelease_cases with h | ⟨h, -⟩ <;> simp [h]
@[simp] theorem tryRelease_foreignSweep (s : State) : s.tryRelease.swc.foreignSweep = s.swc.foreignSweep := by
  rcases s.tryRelease_cases with h | ⟨h, -⟩ <;> simp [h]
@[simp] theorem tryRelease_limitExpired (s : State) : s.tryRelease.swc.limitExpired = s.swc.limitExpired := by
  rcases s.tryRelease_cases with h | ⟨h, -⟩ <;> simp [h]
@[simp] theorem tryRelease_settleDelay (s : State) : s.tryRelease.swc.settleDelay = s.swc.settleDelay := by
  rcases s.tryRelease_cases with h | ⟨h, -⟩ <;> simp [h]
@[simp] theorem tryRelease_lampOk (s : State) : s.tryRelease.swc.lampOk = s.swc.lampOk := by
  rcases s.tryRelease_cases with h | ⟨h, -⟩ <;> simp [h]
@[simp] theorem tryRelease_lampFlt (s : State) : s.tryRelease.swc.lampFlt = s.swc.lampFlt := by
  rcases s.tryRelease_cases with h | ⟨h, -⟩ <;> simp [h]
@[simp] theorem tryRelease_stopDrive (s : State) : s.tryRelease.lif.stopDrive = s.lif.stopDrive := by
  rcases s.tryRelease_cases with h | ⟨h, -⟩ <;> simp [h, Lif.releaseStep]
@[simp] theorem tryRelease_inUse (s : State) (c : Chan) : s.tryRelease.inUse c = s.inUse c := by
  rcases s.tryRelease_cases with h | ⟨h, -⟩ <;> simp [h, inUse]

/-! ### DONE -/

@[simp] theorem enterDone_identity (s : State) : s.enterDone.identity = s.identity := rfl
@[simp] theorem enterDone_spu (s : State) : s.enterDone.spu = s.spu := rfl
@[simp] theorem enterDone_channels (s : State) : s.enterDone.channels = s.channels := rfl
@[simp] theorem enterDone_chan (s : State) (c : Chan) : s.enterDone.chan c = s.chan c := rfl
@[simp] theorem enterDone_emn (s : State) : s.enterDone.emn = s.emn := rfl
@[simp] theorem enterDone_peers (s : State) : s.enterDone.peers = s.peers := rfl
@[simp] theorem enterDone_cfe (s : State) : s.enterDone.cfe = s.cfe := rfl
@[simp] theorem enterDone_pending (s : State) : s.enterDone.pending = s.pending := rfl
@[simp] theorem enterDone_station (s : State) : s.enterDone.swc.station = .done := rfl
@[simp] theorem enterDone_params (s : State) : s.enterDone.swc.params = s.swc.params := rfl
@[simp] theorem enterDone_released (s : State) : s.enterDone.swc.released = s.swc.released := rfl
@[simp] theorem enterDone_haltReason (s : State) : s.enterDone.swc.haltReason = s.swc.haltReason := rfl
@[simp] theorem enterDone_flags (s : State) : s.enterDone.swc.flags = s.swc.flags := rfl
@[simp] theorem enterDone_foreignSweep (s : State) : s.enterDone.swc.foreignSweep = s.swc.foreignSweep := rfl
@[simp] theorem enterDone_stageTimer (s : State) : s.enterDone.swc.stageTimer = .stopped := rfl
@[simp] theorem enterDone_lif (s : State) : s.enterDone.lif = s.lif.leaveBarrier.releaseStop := rfl
@[simp] theorem enterDone_inUse (s : State) (c : Chan) : s.enterDone.inUse c = s.inUse c := rfl

/-! ### The Outbound Queue -/

@[simp] theorem queueReports_identity (s : State) : s.queueReports.identity = s.identity := rfl
@[simp] theorem queueReports_swc (s : State) : s.queueReports.swc = s.swc := rfl
@[simp] theorem queueReports_lif (s : State) : s.queueReports.lif = s.lif := rfl
@[simp] theorem queueReports_spu (s : State) : s.queueReports.spu = s.spu := rfl
@[simp] theorem queueReports_channels (s : State) : s.queueReports.channels = s.channels := rfl
@[simp] theorem queueReports_chan (s : State) (c : Chan) : s.queueReports.chan c = s.chan c := rfl
@[simp] theorem queueReports_emn (s : State) : s.queueReports.emn = s.emn := rfl
@[simp] theorem queueReports_peers (s : State) : s.queueReports.peers = s.peers := rfl
@[simp] theorem queueReports_pending (s : State) : s.queueReports.pending = s.pending := rfl
@[simp] theorem queueReports_inUse (s : State) (c : Chan) : s.queueReports.inUse c = s.inUse c := rfl
@[simp] theorem queueReports_onLine (s : State) : s.queueReports.cfe.onLine = s.cfe.onLine := rfl
@[simp] theorem queueReports_receiver (s : State) : s.queueReports.cfe.receiver = s.cfe.receiver := rfl
@[simp] theorem queueReports_queue (s : State) :
    s.queueReports.cfe.queue = s.reportEntries.foldl enqueue s.cfe.queue := rfl

/-! ### Halts -/

/-- A halt's queue work touches the frame engine alone. -/
theorem haltQueue_cfe_only (s : State) : s.haltQueue = { s with cfe := s.haltQueue.cfe } := by
  unfold haltQueue
  split
  · split <;> rfl
  · rfl

@[simp] theorem haltQueue_identity (s : State) : s.haltQueue.identity = s.identity := by rw [haltQueue_cfe_only]
@[simp] theorem haltQueue_swc (s : State) : s.haltQueue.swc = s.swc := by rw [haltQueue_cfe_only]
@[simp] theorem haltQueue_lif (s : State) : s.haltQueue.lif = s.lif := by rw [haltQueue_cfe_only]
@[simp] theorem haltQueue_spu (s : State) : s.haltQueue.spu = s.spu := by rw [haltQueue_cfe_only]
@[simp] theorem haltQueue_channels (s : State) : s.haltQueue.channels = s.channels := by rw [haltQueue_cfe_only]
@[simp] theorem haltQueue_chan (s : State) (c : Chan) : s.haltQueue.chan c = s.chan c := by rw [haltQueue_cfe_only]; rfl
@[simp] theorem haltQueue_emn (s : State) : s.haltQueue.emn = s.emn := by rw [haltQueue_cfe_only]
@[simp] theorem haltQueue_peers (s : State) : s.haltQueue.peers = s.peers := by rw [haltQueue_cfe_only]
@[simp] theorem haltQueue_pending (s : State) : s.haltQueue.pending = s.pending := by rw [haltQueue_cfe_only]
@[simp] theorem haltQueue_inUse (s : State) (c : Chan) : s.haltQueue.inUse c = s.inUse c := by
  rw [haltQueue_cfe_only]; rfl

@[simp] theorem haltIn_identity (why : HaltReason) (st : Stage) (s : State) : (s.haltIn why st).identity = s.identity := by
  simp [haltIn]
@[simp] theorem haltIn_swc (why : HaltReason) (st : Stage) (s : State) :
    (s.haltIn why st).swc = { s.swc with
      station := .halted st, stageTimer := .stopped, settleDelay := .stopped
      haltReason := if s.swc.haltReason = .none then why else s.swc.haltReason } := by
  simp [haltIn]
@[simp] theorem haltIn_lif (why : HaltReason) (st : Stage) (s : State) : (s.haltIn why st).lif = s.lif.leaveBarrier := by
  simp [haltIn]
@[simp] theorem haltIn_spu (why : HaltReason) (st : Stage) (s : State) : (s.haltIn why st).spu = .idle := by
  simp [haltIn]
@[simp] theorem haltIn_emn (why : HaltReason) (st : Stage) (s : State) : (s.haltIn why st).emn = Emn.initial := by
  simp [haltIn]
@[simp] theorem haltIn_peers (why : HaltReason) (st : Stage) (s : State) : (s.haltIn why st).peers = s.peers := by
  simp [haltIn]
@[simp] theorem haltIn_pending (why : HaltReason) (st : Stage) (s : State) : (s.haltIn why st).pending = s.pending := by
  simp [haltIn]
@[simp] theorem haltIn_inUse (why : HaltReason) (st : Stage) (s : State) (c : Chan) :
    (s.haltIn why st).inUse c = s.inUse c := by
  simp [haltIn]; rfl
@[simp] theorem haltIn_chan (why : HaltReason) (st : Stage) (s : State) (c : Chan) :
    (s.haltIn why st).chan c = if s.inUse c then (s.chan c).haltRecord else s.chan c := by
  have h : (s.haltIn why st).chan c = (s.mapInUse fun _ r => r.haltRecord).chan c := by
    simp [haltIn]; rfl
  rw [h, mapInUse_chan]

/-- A halt is taken in MUSTER to STRESS, and nothing happens elsewhere (R29). -/
theorem halt_cases (why : HaltReason) (s : State) :
    (∃ st, st ≠ .report ∧ s.swc.station = .inStage st ∧ s.halt why = s.haltIn why st) ∨
      (s.halt why = s ∧ ∀ st, s.swc.station = .inStage st → st = .report) := by
  unfold halt
  split <;> simp_all

/-- In a stage before REPORT the halt is taken. -/
theorem halt_of_stage {s : State} {st : Stage} (h : s.swc.station = .inStage st) (h' : st ≠ .report) (why : HaltReason) :
    s.halt why = s.haltIn why st := by
  unfold halt
  rw [h]
  cases st <;> simp_all

@[simp] theorem halt_identity (why : HaltReason) (s : State) : (s.halt why).identity = s.identity := by
  rcases s.halt_cases why with ⟨st, -, -, h⟩ | ⟨h, -⟩ <;> simp [h]
@[simp] theorem halt_peers (why : HaltReason) (s : State) : (s.halt why).peers = s.peers := by
  rcases s.halt_cases why with ⟨st, -, -, h⟩ | ⟨h, -⟩ <;> simp [h]
@[simp] theorem halt_pending (why : HaltReason) (s : State) : (s.halt why).pending = s.pending := by
  rcases s.halt_cases why with ⟨st, -, -, h⟩ | ⟨h, -⟩ <;> simp [h]
@[simp] theorem halt_params (why : HaltReason) (s : State) : (s.halt why).swc.params = s.swc.params := by
  rcases s.halt_cases why with ⟨st, -, -, h⟩ | ⟨h, -⟩ <;> simp [h]
@[simp] theorem halt_inUse (why : HaltReason) (s : State) (c : Chan) : (s.halt why).inUse c = s.inUse c := by
  rcases s.halt_cases why with ⟨st, -, -, h⟩ | ⟨h, -⟩ <;> simp [h]

/-- Under STOP_ALL the halt is taken, under CONTINUE nothing happens (R29). -/
theorem haltIfStopAll_cases (why : HaltReason) (s : State) :
    (s.stopAll = true ∧ s.haltIfStopAll why = s.halt why) ∨ (s.stopAll = false ∧ s.haltIfStopAll why = s) := by
  unfold haltIfStopAll
  cases h : s.stopAll <;> simp

@[simp] theorem haltIfStopAll_identity (why : HaltReason) (s : State) : (s.haltIfStopAll why).identity = s.identity := by
  rcases s.haltIfStopAll_cases why with ⟨-, h⟩ | ⟨-, h⟩ <;> simp [h]
@[simp] theorem haltIfStopAll_peers (why : HaltReason) (s : State) : (s.haltIfStopAll why).peers = s.peers := by
  rcases s.haltIfStopAll_cases why with ⟨-, h⟩ | ⟨-, h⟩ <;> simp [h]
@[simp] theorem haltIfStopAll_pending (why : HaltReason) (s : State) : (s.haltIfStopAll why).pending = s.pending := by
  rcases s.haltIfStopAll_cases why with ⟨-, h⟩ | ⟨-, h⟩ <;> simp [h]
@[simp] theorem haltIfStopAll_params (why : HaltReason) (s : State) :
    (s.haltIfStopAll why).swc.params = s.swc.params := by
  rcases s.haltIfStopAll_cases why with ⟨-, h⟩ | ⟨-, h⟩ <;> simp [h]
@[simp] theorem haltIfStopAll_inUse (why : HaltReason) (s : State) (c : Chan) :
    (s.haltIfStopAll why).inUse c = s.inUse c := by
  rcases s.haltIfStopAll_cases why with ⟨-, h⟩ | ⟨-, h⟩ <;> simp [h]

/-! ### IDENTIFY completion and the close of an event -/

@[simp] theorem fillPeerCounts_identity (s : State) : s.fillPeerCounts.identity = s.identity := rfl
@[simp] theorem fillPeerCounts_swc (s : State) : s.fillPeerCounts.swc = s.swc := rfl
@[simp] theorem fillPeerCounts_lif (s : State) : s.fillPeerCounts.lif = s.lif := rfl
@[simp] theorem fillPeerCounts_spu (s : State) : s.fillPeerCounts.spu = s.spu := rfl
@[simp] theorem fillPeerCounts_chan (s : State) (c : Chan) : s.fillPeerCounts.chan c = s.chan c := rfl
@[simp] theorem fillPeerCounts_emn (s : State) : s.fillPeerCounts.emn = s.emn := rfl
@[simp] theorem fillPeerCounts_cfe (s : State) : s.fillPeerCounts.cfe = s.cfe := rfl
@[simp] theorem fillPeerCounts_pending (s : State) : s.fillPeerCounts.pending = s.pending := rfl
@[simp] theorem fillPeerCounts_inUse (s : State) (c : Chan) : s.fillPeerCounts.inUse c = s.inUse c := rfl

@[simp] theorem markDuplicates_identity (s : State) : s.markDuplicates.identity = s.identity := rfl
@[simp] theorem markDuplicates_swc (s : State) : s.markDuplicates.swc = s.swc := rfl
@[simp] theorem markDuplicates_lif (s : State) : s.markDuplicates.lif = s.lif := rfl
@[simp] theorem markDuplicates_spu (s : State) : s.markDuplicates.spu = s.spu := rfl
@[simp] theorem markDuplicates_emn (s : State) : s.markDuplicates.emn = s.emn := rfl
@[simp] theorem markDuplicates_peers (s : State) : s.markDuplicates.peers = s.peers := rfl
@[simp] theorem markDuplicates_cfe (s : State) : s.markDuplicates.cfe = s.cfe := rfl
@[simp] theorem markDuplicates_pending (s : State) : s.markDuplicates.pending = s.pending := rfl
@[simp] theorem markDuplicates_inUse (s : State) (c : Chan) : s.markDuplicates.inUse c = s.inUse c := rfl

/-- Marking changes nothing of a record but its DUPLICATE flag. -/
theorem markDuplicates_chan (s : State) (c : Chan) :
    s.markDuplicates.chan c = { s.chan c with
      ident := { (s.chan c).ident with duplicate := (s.markDuplicates.chan c).ident.duplicate } } := by
  unfold markDuplicates
  rw [mapInUse_chan]
  split <;> rfl

@[simp] theorem completeIdentify_identity (s : State) : s.completeIdentify.identity = s.identity := rfl
@[simp] theorem completeIdentify_swc (s : State) : s.completeIdentify.swc = s.swc := rfl
@[simp] theorem completeIdentify_lif (s : State) : s.completeIdentify.lif = s.lif := rfl
@[simp] theorem completeIdentify_spu (s : State) : s.completeIdentify.spu = s.spu := rfl
@[simp] theorem completeIdentify_emn (s : State) : s.completeIdentify.emn = s.emn := rfl
@[simp] theorem completeIdentify_cfe (s : State) : s.completeIdentify.cfe = s.cfe := rfl
@[simp] theorem completeIdentify_pending (s : State) : s.completeIdentify.pending = s.pending := rfl
@[simp] theorem completeIdentify_inUse (s : State) (c : Chan) : s.completeIdentify.inUse c = s.inUse c := rfl
@[simp] theorem completeIdentify_chan (s : State) (c : Chan) : s.completeIdentify.chan c = s.markDuplicates.chan c := rfl

/-- The close of an event is a release attempt, after the completion of IDENTIFY if it falls in the event. -/
theorem finish_cases (before s : State) :
    finish before s = s.tryRelease ∨
      (finish before s = s.completeIdentify.tryRelease ∧ s.swc.station = .inStage .identify ∧
        before.identOpen = true ∧ s.identOpen = false) := by
  unfold finish
  split
  · rename_i h; exact Or.inr ⟨rfl, h⟩
  · exact Or.inl rfl

@[simp] theorem finish_identity (b s : State) : (finish b s).identity = s.identity := by
  rcases finish_cases b s with h | ⟨h, -⟩ <;> simp [h]
@[simp] theorem finish_spu (b s : State) : (finish b s).spu = s.spu := by
  rcases finish_cases b s with h | ⟨h, -⟩ <;> simp [h]
@[simp] theorem finish_emn (b s : State) : (finish b s).emn = s.emn := by
  rcases finish_cases b s with h | ⟨h, -⟩ <;> simp [h]
@[simp] theorem finish_cfe (b s : State) : (finish b s).cfe = s.cfe := by
  rcases finish_cases b s with h | ⟨h, -⟩ <;> simp [h]
@[simp] theorem finish_pending (b s : State) : (finish b s).pending = s.pending := by
  rcases finish_cases b s with h | ⟨h, -⟩ <;> simp [h]
@[simp] theorem finish_station (b s : State) : (finish b s).swc.station = s.swc.station := by
  rcases finish_cases b s with h | ⟨h, -⟩ <;> simp [h]
@[simp] theorem finish_params (b s : State) : (finish b s).swc.params = s.swc.params := by
  rcases finish_cases b s with h | ⟨h, -⟩ <;> simp [h]
@[simp] theorem finish_haltReason (b s : State) : (finish b s).swc.haltReason = s.swc.haltReason := by
  rcases finish_cases b s with h | ⟨h, -⟩ <;> simp [h]
@[simp] theorem finish_flags (b s : State) : (finish b s).swc.flags = s.swc.flags := by
  rcases finish_cases b s with h | ⟨h, -⟩ <;> simp [h]
@[simp] theorem finish_foreignSweep (b s : State) : (finish b s).swc.foreignSweep = s.swc.foreignSweep := by
  rcases finish_cases b s with h | ⟨h, -⟩ <;> simp [h]
@[simp] theorem finish_limitExpired (b s : State) : (finish b s).swc.limitExpired = s.swc.limitExpired := by
  rcases finish_cases b s with h | ⟨h, -⟩ <;> simp [h]
@[simp] theorem finish_settleDelay (b s : State) : (finish b s).swc.settleDelay = s.swc.settleDelay := by
  rcases finish_cases b s with h | ⟨h, -⟩ <;> simp [h]
@[simp] theorem finish_lampOk (b s : State) : (finish b s).swc.lampOk = s.swc.lampOk := by
  rcases finish_cases b s with h | ⟨h, -⟩ <;> simp [h]
@[simp] theorem finish_lampFlt (b s : State) : (finish b s).swc.lampFlt = s.swc.lampFlt := by
  rcases finish_cases b s with h | ⟨h, -⟩ <;> simp [h]
@[simp] theorem finish_stopDrive (b s : State) : (finish b s).lif.stopDrive = s.lif.stopDrive := by
  rcases finish_cases b s with h | ⟨h, -⟩ <;> simp [h]
@[simp] theorem finish_inUse (b s : State) (c : Chan) : (finish b s).inUse c = s.inUse c := by
  rcases finish_cases b s with h | ⟨h, -⟩ <;> simp [h]

/-- The close of an event changes nothing of a record but its DUPLICATE flag. -/
theorem finish_chan (b s : State) (c : Chan) :
    (finish b s).chan c = { s.chan c with
      ident := { (s.chan c).ident with duplicate := ((finish b s).chan c).ident.duplicate } } := by
  rcases finish_cases b s with h | ⟨h, -⟩
  · simp [h]
  · simp only [h, tryRelease_chan, completeIdentify_chan]; exact markDuplicates_chan s c

@[simp] theorem finish_chan_static (b s : State) (c : Chan) : ((finish b s).chan c).static = (s.chan c).static := by
  rw [finish_chan]
@[simp] theorem finish_chan_tx (b s : State) (c : Chan) : ((finish b s).chan c).tx = (s.chan c).tx := by rw [finish_chan]
@[simp] theorem finish_chan_rx (b s : State) (c : Chan) : ((finish b s).chan c).rx = (s.chan c).rx := by rw [finish_chan]
@[simp] theorem finish_chan_soak (b s : State) (c : Chan) : ((finish b s).chan c).soak = (s.chan c).soak := by
  rw [finish_chan]
@[simp] theorem finish_chan_stress (b s : State) (c : Chan) : ((finish b s).chan c).stress = (s.chan c).stress := by
  rw [finish_chan]
@[simp] theorem finish_chan_snapshot (b s : State) (c : Chan) : ((finish b s).chan c).snapshot = (s.chan c).snapshot := by
  rw [finish_chan]
@[simp] theorem finish_chan_scan (b s : State) (c : Chan) : ((finish b s).chan c).scan = (s.chan c).scan := by
  rw [finish_chan]

/-! ### The arbiter -/

/-- The three answers of a grant decision (R152). -/
theorem arbitrate_cases (s : State) :
    s.arbitrate = s ∨
    (∃ c cs, s.emn.grant = none ∧ s.emn.spotPending = c :: cs ∧ s.emn.skip < skipLimit ∧
      s.arbitrate = (s.mapEmn fun m => { m with
          grant := some (grantAt c (.spot none) spotFirstPoint), spotPending := cs
          skip := if s.emn.scanQueue = [] then m.skip else m.skip + 1 }).mapChan c
        fun r => { r with rx := { r.rx with state := .spotRun } }) ∨
    (∃ c cs, s.emn.grant = none ∧ s.emn.scanQueue = c :: cs ∧ (s.emn.spotPending = [] ∨ skipLimit ≤ s.emn.skip) ∧
      s.arbitrate = (s.mapEmn fun m => { m with
          grant := some (grantAt c (.scan .origin .none) scanOrigin), scanQueue := cs, skip := 0 }).mapChan c
        fun r => { r with scan := { r.scan with state := .granted, attempts := r.scan.attempts + 1 } }) := by
  unfold arbitrate
  cases hg : s.emn.grant with
  | some g => simp
  | none =>
    cases hsp : s.emn.spotPending with
    | nil =>
      cases hq : s.emn.scanQueue with
      | nil => simp
      | cons d ds => refine Or.inr (Or.inr ⟨d, ds, rfl, rfl, Or.inl rfl, ?_⟩); simp
    | cons c cs =>
      by_cases hk : s.emn.skip < skipLimit
      · refine Or.inr (Or.inl ⟨c, cs, rfl, rfl, hk, ?_⟩); simp [hk]
      · cases hq : s.emn.scanQueue with
        | nil => simp [hk]
        | cons d ds => refine Or.inr (Or.inr ⟨d, ds, rfl, rfl, Or.inr (by omega), ?_⟩); simp [hk]

@[simp] theorem arbitrate_identity (s : State) : s.arbitrate.identity = s.identity := by
  rcases s.arbitrate_cases with h | ⟨_, _, _, _, _, h⟩ | ⟨_, _, _, _, _, h⟩ <;> simp [h]
@[simp] theorem arbitrate_swc (s : State) : s.arbitrate.swc = s.swc := by
  rcases s.arbitrate_cases with h | ⟨_, _, _, _, _, h⟩ | ⟨_, _, _, _, _, h⟩ <;> simp [h]
@[simp] theorem arbitrate_lif (s : State) : s.arbitrate.lif = s.lif := by
  rcases s.arbitrate_cases with h | ⟨_, _, _, _, _, h⟩ | ⟨_, _, _, _, _, h⟩ <;> simp [h]
@[simp] theorem arbitrate_spu (s : State) : s.arbitrate.spu = s.spu := by
  rcases s.arbitrate_cases with h | ⟨_, _, _, _, _, h⟩ | ⟨_, _, _, _, _, h⟩ <;> simp [h]
@[simp] theorem arbitrate_peers (s : State) : s.arbitrate.peers = s.peers := by
  rcases s.arbitrate_cases with h | ⟨_, _, _, _, _, h⟩ | ⟨_, _, _, _, _, h⟩ <;> simp [h]
@[simp] theorem arbitrate_cfe (s : State) : s.arbitrate.cfe = s.cfe := by
  rcases s.arbitrate_cases with h | ⟨_, _, _, _, _, h⟩ | ⟨_, _, _, _, _, h⟩ <;> simp [h]
@[simp] theorem arbitrate_pending (s : State) : s.arbitrate.pending = s.pending := by
  rcases s.arbitrate_cases with h | ⟨_, _, _, _, _, h⟩ | ⟨_, _, _, _, _, h⟩ <;> simp [h]
@[simp] theorem arbitrate_inUse (s : State) (c : Chan) : s.arbitrate.inUse c = s.inUse c := by
  rcases s.arbitrate_cases with h | ⟨_, _, _, _, _, h⟩ | ⟨_, _, _, _, _, h⟩ <;> simp [h]

/-- A grant decision changes nothing of a record but the receiver state or the scan items. -/
theorem arbitrate_chan (s : State) (c : Chan) :
    s.arbitrate.chan c = { s.chan c with
      rx := { (s.chan c).rx with state := (s.arbitrate.chan c).rx.state }
      scan := (s.arbitrate.chan c).scan } := by
  rcases s.arbitrate_cases with h | ⟨d, ds, _, _, _, h⟩ | ⟨d, ds, _, _, _, h⟩ <;>
    rw [h] <;> simp only [mapChan_chan, mapEmn_chan] <;> split <;> rfl

/-! ### Failed attempts and lock losses -/

/-- What settling a dead channel's items touches. -/
theorem settleDead_chan_only (c : Chan) (s : State) : ∃ f, s.settleDead c = s.mapChan c f ∨ s.settleDead c = s := by
  unfold settleDead
  split
  · exact ⟨_, Or.inl rfl⟩
  all_goals exact ⟨id, Or.inr rfl⟩

@[simp] theorem settleDead_identity (c : Chan) (s : State) : (s.settleDead c).identity = s.identity := by
  obtain ⟨f, h | h⟩ := s.settleDead_chan_only c <;> simp [h]
@[simp] theorem settleDead_swc (c : Chan) (s : State) : (s.settleDead c).swc = s.swc := by
  obtain ⟨f, h | h⟩ := s.settleDead_chan_only c <;> simp [h]
@[simp] theorem settleDead_lif (c : Chan) (s : State) : (s.settleDead c).lif = s.lif := by
  obtain ⟨f, h | h⟩ := s.settleDead_chan_only c <;> simp [h]
@[simp] theorem settleDead_spu (c : Chan) (s : State) : (s.settleDead c).spu = s.spu := by
  obtain ⟨f, h | h⟩ := s.settleDead_chan_only c <;> simp [h]
@[simp] theorem settleDead_emn (c : Chan) (s : State) : (s.settleDead c).emn = s.emn := by
  obtain ⟨f, h | h⟩ := s.settleDead_chan_only c <;> simp [h]
@[simp] theorem settleDead_peers (c : Chan) (s : State) : (s.settleDead c).peers = s.peers := by
  obtain ⟨f, h | h⟩ := s.settleDead_chan_only c <;> simp [h]
@[simp] theorem settleDead_cfe (c : Chan) (s : State) : (s.settleDead c).cfe = s.cfe := by
  obtain ⟨f, h | h⟩ := s.settleDead_chan_only c <;> simp [h]
@[simp] theorem settleDead_pending (c : Chan) (s : State) : (s.settleDead c).pending = s.pending := by
  obtain ⟨f, h | h⟩ := s.settleDead_chan_only c <;> simp [h]
@[simp] theorem settleDead_inUse (c : Chan) (s : State) (d : Chan) : (s.settleDead c).inUse d = s.inUse d := by
  obtain ⟨f, h | h⟩ := s.settleDead_chan_only c <;> simp [h]
@[simp] theorem settleDead_chan_rx (c d : Chan) (s : State) : ((s.settleDead c).chan d).rx = (s.chan d).rx := by
  unfold settleDead
  split <;> simp only [mapChan_chan]
  split
  · rename_i st _ h; subst h; cases st <;> rfl
  · rfl
@[simp] theorem settleDead_chan_tx (c d : Chan) (s : State) : ((s.settleDead c).chan d).tx = (s.chan d).tx := by
  unfold settleDead
  split <;> simp only [mapChan_chan]
  split
  · rename_i st _ h; subst h; cases st <;> rfl
  · rfl
@[simp] theorem settleDead_chan_static (c d : Chan) (s : State) :
    ((s.settleDead c).chan d).static = (s.chan d).static := by
  unfold settleDead
  split <;> simp only [mapChan_chan]
  split
  · rename_i st _ h; subst h; cases st <;> rfl
  · rfl
theorem settleDead_chan_other {c d : Chan} (h : d ≠ c) (s : State) : (s.settleDead c).chan d = s.chan d := by
  obtain ⟨f, e | e⟩ := s.settleDead_chan_only c <;> simp [e, mapChan_chan_other h]

/-- The two answers of a raised retrain count (R95). -/
theorem countFailure_cases (c : Chan) (s : State) :
    s.countFailure c = (s.mapChan c fun r => { r with rx := r.rx.countFailure s.swc.params }) ∨
      (s.countFailure c = (s.mapChan c fun r => { r with rx := r.rx.countFailure s.swc.params }).settleDead c ∧
        s.swc.params.budget < (s.chan c).rx.retrainCount + 1) := by
  unfold countFailure
  dsimp only
  split
  · rename_i h
    refine Or.inr ⟨rfl, ?_⟩
    simp only [mapChan_chan_self, Rx.countFailure] at h
    split at h
    · simp at h
    · omega
  · exact Or.inl rfl

@[simp] theorem countFailure_identity (c : Chan) (s : State) : (s.countFailure c).identity = s.identity := by
  rcases s.countFailure_cases c with h | ⟨h, -⟩ <;> simp [h]
@[simp] theorem countFailure_swc (c : Chan) (s : State) : (s.countFailure c).swc = s.swc := by
  rcases s.countFailure_cases c with h | ⟨h, -⟩ <;> simp [h]
@[simp] theorem countFailure_lif (c : Chan) (s : State) : (s.countFailure c).lif = s.lif := by
  rcases s.countFailure_cases c with h | ⟨h, -⟩ <;> simp [h]
@[simp] theorem countFailure_spu (c : Chan) (s : State) : (s.countFailure c).spu = s.spu := by
  rcases s.countFailure_cases c with h | ⟨h, -⟩ <;> simp [h]
@[simp] theorem countFailure_emn (c : Chan) (s : State) : (s.countFailure c).emn = s.emn := by
  rcases s.countFailure_cases c with h | ⟨h, -⟩ <;> simp [h]
@[simp] theorem countFailure_peers (c : Chan) (s : State) : (s.countFailure c).peers = s.peers := by
  rcases s.countFailure_cases c with h | ⟨h, -⟩ <;> simp [h]
@[simp] theorem countFailure_cfe (c : Chan) (s : State) : (s.countFailure c).cfe = s.cfe := by
  rcases s.countFailure_cases c with h | ⟨h, -⟩ <;> simp [h]
@[simp] theorem countFailure_pending (c : Chan) (s : State) : (s.countFailure c).pending = s.pending := by
  rcases s.countFailure_cases c with h | ⟨h, -⟩ <;> simp [h]
@[simp] theorem countFailure_inUse (c : Chan) (s : State) (d : Chan) : (s.countFailure c).inUse d = s.inUse d := by
  rcases s.countFailure_cases c with h | ⟨h, -⟩ <;> simp [h]
@[simp] theorem countFailure_chan_rx (c : Chan) (s : State) :
    ((s.countFailure c).chan c).rx = (s.chan c).rx.countFailure s.swc.params := by
  rcases s.countFailure_cases c with h | ⟨h, -⟩ <;> simp [h]
theorem countFailure_chan_other {c d : Chan} (h : d ≠ c) (s : State) : (s.countFailure c).chan d = s.chan d := by
  rcases s.countFailure_cases c with e | ⟨e, -⟩ <;> simp [e, mapChan_chan_other h, settleDead_chan_other h]
@[simp] theorem countFailure_chan_tx (c d : Chan) (s : State) : ((s.countFailure c).chan d).tx = (s.chan d).tx := by
  rcases s.countFailure_cases c with e | ⟨e, -⟩ <;> simp only [e, settleDead_chan_tx, mapChan_chan] <;> split <;> rfl
@[simp] theorem countFailure_chan_static (c d : Chan) (s : State) :
    ((s.countFailure c).chan d).static = (s.chan d).static := by
  rcases s.countFailure_cases c with e | ⟨e, -⟩ <;> simp only [e, settleDead_chan_static, mapChan_chan] <;> split <;> rfl

/-- A lock in a stage. -/
theorem lock_of_stage {s : State} {st : Stage} (h : s.swc.station = .inStage st) (c : Chan) :
    s.lock c =
      (let s1 := s.mapChan c (lockRecord st (!s.swc.settleDelay.isRunning))
       if (s.chan c).scan.state = .awaitLock then s1.mapEmn fun m => m.setQueue (m.scanQueue ++ [c]) else s1) := by
  unfold lock
  rw [h]

/-- A lock loss in a stage. -/
theorem loseLock_of_stage {s : State} {st : Stage} (h : s.swc.station = .inStage st) (c : Chan) :
    s.loseLock c =
      finish s (((s.mapChan c (loseRecord st)).mapEmn (·.dropScan c)).countFailure c).arbitrate := by
  unfold loseLock
  rw [h]

end Sys2Proof.Machine.State
end

