-- ==== Sys2Proof/Laws/Commands.lean ====
section
/-! SUPPORT. What the operations of single commands leave alone: one lemma per field, so that no proof unfolds them. -/
namespace Sys2Proof.Machine.State

/-! ### Probe findings -/

@[simp] theorem writeFindings_identity (p : ProbeRound) (s : State) : (s.writeFindings p).identity = s.identity := rfl
@[simp] theorem writeFindings_swc (p : ProbeRound) (s : State) : (s.writeFindings p).swc = s.swc := rfl
@[simp] theorem writeFindings_lif (p : ProbeRound) (s : State) : (s.writeFindings p).lif = s.lif := rfl
@[simp] theorem writeFindings_spu (p : ProbeRound) (s : State) : (s.writeFindings p).spu = s.spu := rfl
@[simp] theorem writeFindings_emn (p : ProbeRound) (s : State) : (s.writeFindings p).emn = s.emn := rfl
@[simp] theorem writeFindings_peers (p : ProbeRound) (s : State) : (s.writeFindings p).peers = s.peers := rfl
@[simp] theorem writeFindings_cfe (p : ProbeRound) (s : State) : (s.writeFindings p).cfe = s.cfe := rfl
@[simp] theorem writeFindings_pending (p : ProbeRound) (s : State) : (s.writeFindings p).pending = s.pending := rfl
@[simp] theorem writeFindings_inUse (p : ProbeRound) (s : State) (d : Chan) :
    (s.writeFindings p).inUse d = s.inUse d := rfl

/-! ### Tokens -/

@[simp] theorem offerToken_identity (id : Identity) (t : Token) (s : State) :
    (s.offerToken id t).identity = s.identity := by
  unfold offerToken; dsimp only; split <;> rfl
@[simp] theorem offerToken_lif (id : Identity) (t : Token) (s : State) :
    (s.offerToken id t).lif = s.lif := by
  unfold offerToken; dsimp only; split <;> rfl
@[simp] theorem offerToken_spu (id : Identity) (t : Token) (s : State) :
    (s.offerToken id t).spu = s.spu := by
  unfold offerToken; dsimp only; split <;> rfl
@[simp] theorem offerToken_channels (id : Identity) (t : Token) (s : State) :
    (s.offerToken id t).channels = s.channels := by
  unfold offerToken; dsimp only; split <;> rfl
@[simp] theorem offerToken_emn (id : Identity) (t : Token) (s : State) :
    (s.offerToken id t).emn = s.emn := by
  unfold offerToken; dsimp only; split <;> rfl
@[simp] theorem offerToken_cfe (id : Identity) (t : Token) (s : State) :
    (s.offerToken id t).cfe = s.cfe := by
  unfold offerToken; dsimp only; split <;> rfl
@[simp] theorem offerToken_pending (id : Identity) (t : Token) (s : State) :
    (s.offerToken id t).pending = s.pending := by
  unfold offerToken; dsimp only; split <;> rfl
@[simp] theorem offerToken_station (id : Identity) (t : Token) (s : State) :
    (s.offerToken id t).swc.station = s.swc.station := by
  unfold offerToken; dsimp only; split <;> rfl
@[simp] theorem offerToken_params (id : Identity) (t : Token) (s : State) :
    (s.offerToken id t).swc.params = s.swc.params := by
  unfold offerToken; dsimp only; split <;> rfl
@[simp] theorem offerToken_released (id : Identity) (t : Token) (s : State) :
    (s.offerToken id t).swc.released = s.swc.released := by
  unfold offerToken; dsimp only; split <;> rfl
@[simp] theorem offerToken_haltReason (id : Identity) (t : Token) (s : State) :
    (s.offerToken id t).swc.haltReason = s.swc.haltReason := by
  unfold offerToken; dsimp only; split <;> rfl
@[simp] theorem offerToken_limitExpired (id : Identity) (t : Token) (s : State) :
    (s.offerToken id t).swc.limitExpired = s.swc.limitExpired := by
  unfold offerToken; dsimp only; split <;> rfl
@[simp] theorem offerToken_stageTimer (id : Identity) (t : Token) (s : State) :
    (s.offerToken id t).swc.stageTimer = s.swc.stageTimer := by
  unfold offerToken; dsimp only; split <;> rfl
@[simp] theorem offerToken_settleDelay (id : Identity) (t : Token) (s : State) :
    (s.offerToken id t).swc.settleDelay = s.swc.settleDelay := by
  unfold offerToken; dsimp only; split <;> rfl
@[simp] theorem offerToken_foreignSweep (id : Identity) (t : Token) (s : State) :
    (s.offerToken id t).swc.foreignSweep = s.swc.foreignSweep := by
  unfold offerToken; dsimp only; split <;> rfl
@[simp] theorem offerToken_lampOk (id : Identity) (t : Token) (s : State) :
    (s.offerToken id t).swc.lampOk = s.swc.lampOk := by
  unfold offerToken; dsimp only; split <;> rfl
@[simp] theorem offerToken_lampFlt (id : Identity) (t : Token) (s : State) :
    (s.offerToken id t).swc.lampFlt = s.swc.lampFlt := by
  unfold offerToken; dsimp only; split <;> rfl
@[simp] theorem offerToken_chan (id : Identity) (t : Token) (s : State) (c : Chan) :
    (s.offerToken id t).chan c = s.chan c := by
  simp [chan]
@[simp] theorem offerToken_inUse (id : Identity) (t : Token) (s : State) (c : Chan) :
    (s.offerToken id t).inUse c = s.inUse c := by
  simp [inUse]
@[simp] theorem takeValidToken_identity (c : Chan) (id : Identity) (t : Token) (st : Stage) (s : State) :
    (s.takeValidToken c id t st).identity = s.identity := by
  unfold takeValidToken; dsimp only; split <;> simp
@[simp] theorem takeValidToken_lif (c : Chan) (id : Identity) (t : Token) (st : Stage) (s : State) :
    (s.takeValidToken c id t st).lif = s.lif := by
  unfold takeValidToken; dsimp only; split <;> simp
@[simp] theorem takeValidToken_spu (c : Chan) (id : Identity) (t : Token) (st : Stage) (s : State) :
    (s.takeValidToken c id t st).spu = s.spu := by
  unfold takeValidToken; dsimp only; split <;> simp
@[simp] theorem takeValidToken_emn (c : Chan) (id : Identity) (t : Token) (st : Stage) (s : State) :
    (s.takeValidToken c id t st).emn = s.emn := by
  unfold takeValidToken; dsimp only; split <;> simp
@[simp] theorem takeValidToken_cfe (c : Chan) (id : Identity) (t : Token) (st : Stage) (s : State) :
    (s.takeValidToken c id t st).cfe = s.cfe := by
  unfold takeValidToken; dsimp only; split <;> simp
@[simp] theorem takeValidToken_pending (c : Chan) (id : Identity) (t : Token) (st : Stage) (s : State) :
    (s.takeValidToken c id t st).pending = s.pending := by
  unfold takeValidToken; dsimp only; split <;> simp
@[simp] theorem takeValidToken_station (c : Chan) (id : Identity) (t : Token) (st : Stage) (s : State) :
    (s.takeValidToken c id t st).swc.station = s.swc.station := by
  unfold takeValidToken; dsimp only; split <;> simp
@[simp] theorem takeValidToken_params (c : Chan) (id : Identity) (t : Token) (st : Stage) (s : State) :
    (s.takeValidToken c id t st).swc.params = s.swc.params := by
  unfold takeValidToken; dsimp only; split <;> simp
@[simp] theorem takeValidToken_released (c : Chan) (id : Identity) (t : Token) (st : Stage) (s : State) :
    (s.takeValidToken c id t st).swc.released = s.swc.released := by
  unfold takeValidToken; dsimp only; split <;> simp
@[simp] theorem takeValidToken_haltReason (c : Chan) (id : Identity) (t : Token) (st : Stage) (s : State) :
    (s.takeValidToken c id t st).swc.haltReason = s.swc.haltReason := by
  unfold takeValidToken; dsimp only; split <;> simp
@[simp] theorem takeValidToken_limitExpired (c : Chan) (id : Identity) (t : Token) (st : Stage) (s : State) :
    (s.takeValidToken c id t st).swc.limitExpired = s.swc.limitExpired := by
  unfold takeValidToken; dsimp only; split <;> simp
@[simp] theorem takeValidToken_stageTimer (c : Chan) (id : Identity) (t : Token) (st : Stage) (s : State) :
    (s.takeValidToken c id t st).swc.stageTimer = s.swc.stageTimer := by
  unfold takeValidToken; dsimp only; split <;> simp
@[simp] theorem takeValidToken_settleDelay (c : Chan) (id : Identity) (t : Token) (st : Stage) (s : State) :
    (s.takeValidToken c id t st).swc.settleDelay = s.swc.settleDelay := by
  unfold takeValidToken; dsimp only; split <;> simp
@[simp] theorem takeValidToken_foreignSweep (c : Chan) (id : Identity) (t : Token) (st : Stage) (s : State) :
    (s.takeValidToken c id t st).swc.foreignSweep = s.swc.foreignSweep := by
  unfold takeValidToken; dsimp only; split <;> simp
@[simp] theorem takeValidToken_lampOk (c : Chan) (id : Identity) (t : Token) (st : Stage) (s : State) :
    (s.takeValidToken c id t st).swc.lampOk = s.swc.lampOk := by
  unfold takeValidToken; dsimp only; split <;> simp
@[simp] theorem takeValidToken_lampFlt (c : Chan) (id : Identity) (t : Token) (st : Stage) (s : State) :
    (s.takeValidToken c id t st).swc.lampFlt = s.swc.lampFlt := by
  unfold takeValidToken; dsimp only; split <;> simp
@[simp] theorem takeValidToken_inUse (c : Chan) (id : Identity) (t : Token) (st : Stage) (s : State) (d : Chan) :
    (s.takeValidToken c id t st).inUse d = s.inUse d := by
  simp [inUse]
@[simp] theorem takeNoToken_identity (c : Chan) (s : State) : (s.takeNoToken c).identity = s.identity := rfl
@[simp] theorem takeNoToken_swc (c : Chan) (s : State) : (s.takeNoToken c).swc = s.swc := rfl
@[simp] theorem takeNoToken_lif (c : Chan) (s : State) : (s.takeNoToken c).lif = s.lif := rfl
@[simp] theorem takeNoToken_spu (c : Chan) (s : State) : (s.takeNoToken c).spu = s.spu := rfl
@[simp] theorem takeNoToken_emn (c : Chan) (s : State) : (s.takeNoToken c).emn = s.emn := rfl
@[simp] theorem takeNoToken_peers (c : Chan) (s : State) : (s.takeNoToken c).peers = s.peers := rfl
@[simp] theorem takeNoToken_cfe (c : Chan) (s : State) : (s.takeNoToken c).cfe = s.cfe := rfl
@[simp] theorem takeNoToken_pending (c : Chan) (s : State) : (s.takeNoToken c).pending = s.pending := rfl
@[simp] theorem takeNoToken_inUse (c : Chan) (s : State) (d : Chan) : (s.takeNoToken c).inUse d = s.inUse d := rfl
@[simp] theorem noteUncorrectable_identity (c : Chan) (st : Stage) (s : State) :
    (s.noteUncorrectable c st).identity = s.identity := rfl
@[simp] theorem noteUncorrectable_swc (c : Chan) (st : Stage) (s : State) :
    (s.noteUncorrectable c st).swc = s.swc := rfl
@[simp] theorem noteUncorrectable_lif (c : Chan) (st : Stage) (s : State) :
    (s.noteUncorrectable c st).lif = s.lif := rfl
@[simp] theorem noteUncorrectable_spu (c : Chan) (st : Stage) (s : State) :
    (s.noteUncorrectable c st).spu = s.spu := rfl
@[simp] theorem noteUncorrectable_emn (c : Chan) (st : Stage) (s : State) :
    (s.noteUncorrectable c st).emn = s.emn := rfl
@[simp] theorem noteUncorrectable_peers (c : Chan) (st : Stage) (s : State) :
    (s.noteUncorrectable c st).peers = s.peers := rfl
@[simp] theorem noteUncorrectable_cfe (c : Chan) (st : Stage) (s : State) :
    (s.noteUncorrectable c st).cfe = s.cfe := rfl
@[simp] theorem noteUncorrectable_pending (c : Chan) (st : Stage) (s : State) :
    (s.noteUncorrectable c st).pending = s.pending := rfl
@[simp] theorem noteUncorrectable_inUse (c : Chan) (st : Stage) (s : State) (d : Chan) :
    (s.noteUncorrectable c st).inUse d = s.inUse d := rfl
@[simp] theorem takeBlock_identity (c : Chan) (w : BitVec 32) (s : State) : (s.takeBlock c w).identity = s.identity := by
  unfold takeBlock; split
  · split
    · simp
    all_goals (split <;> simp)
  · rfl
@[simp] theorem takeBlock_lif (c : Chan) (w : BitVec 32) (s : State) : (s.takeBlock c w).lif = s.lif := by
  unfold takeBlock; split
  · split
    · simp
    all_goals (split <;> simp)
  · rfl
@[simp] theorem takeBlock_spu (c : Chan) (w : BitVec 32) (s : State) : (s.takeBlock c w).spu = s.spu := by
  unfold takeBlock; split
  · split
    · simp
    all_goals (split <;> simp)
  · rfl
@[simp] theorem takeBlock_emn (c : Chan) (w : BitVec 32) (s : State) : (s.takeBlock c w).emn = s.emn := by
  unfold takeBlock; split
  · split
    · simp
    all_goals (split <;> simp)
  · rfl
@[simp] theorem takeBlock_cfe (c : Chan) (w : BitVec 32) (s : State) : (s.takeBlock c w).cfe = s.cfe := by
  unfold takeBlock; split
  · split
    · simp
    all_goals (split <;> simp)
  · rfl
@[simp] theorem takeBlock_pending (c : Chan) (w : BitVec 32) (s : State) : (s.takeBlock c w).pending = s.pending := by
  unfold takeBlock; split
  · split
    · simp
    all_goals (split <;> simp)
  · rfl
@[simp] theorem takeBlock_station (c : Chan) (w : BitVec 32) (s : State) : (s.takeBlock c w).swc.station = s.swc.station := by
  unfold takeBlock; split
  · split
    · simp
    all_goals (split <;> simp)
  · rfl
@[simp] theorem takeBlock_params (c : Chan) (w : BitVec 32) (s : State) : (s.takeBlock c w).swc.params = s.swc.params := by
  unfold takeBlock; split
  · split
    · simp
    all_goals (split <;> simp)
  · rfl
@[simp] theorem takeBlock_released (c : Chan) (w : BitVec 32) (s : State) : (s.takeBlock c w).swc.released = s.swc.released := by
  unfold takeBlock; split
  · split
    · simp
    all_goals (split <;> simp)
  · rfl
@[simp] theorem takeBlock_haltReason (c : Chan) (w : BitVec 32) (s : State) : (s.takeBlock c w).swc.haltReason = s.swc.haltReason := by
  unfold takeBlock; split
  · split
    · simp
    all_goals (split <;> simp)
  · rfl
@[simp] theorem takeBlock_limitExpired (c : Chan) (w : BitVec 32) (s : State) : (s.takeBlock c w).swc.limitExpired = s.swc.limitExpired := by
  unfold takeBlock; split
  · split
    · simp
    all_goals (split <;> simp)
  · rfl
@[simp] theorem takeBlock_stageTimer (c : Chan) (w : BitVec 32) (s : State) : (s.takeBlock c w).swc.stageTimer = s.swc.stageTimer := by
  unfold takeBlock; split
  · split
    · simp
    all_goals (split <;> simp)
  · rfl
@[simp] theorem takeBlock_settleDelay (c : Chan) (w : BitVec 32) (s : State) : (s.takeBlock c w).swc.settleDelay = s.swc.settleDelay := by
  unfold takeBlock; split
  · split
    · simp
    all_goals (split <;> simp)
  · rfl
@[simp] theorem takeBlock_foreignSweep (c : Chan) (w : BitVec 32) (s : State) : (s.takeBlock c w).swc.foreignSweep = s.swc.foreignSweep := by
  unfold takeBlock; split
  · split
    · simp
    all_goals (split <;> simp)
  · rfl
@[simp] theorem takeBlock_lampOk (c : Chan) (w : BitVec 32) (s : State) : (s.takeBlock c w).swc.lampOk = s.swc.lampOk := by
  unfold takeBlock; split
  · split
    · simp
    all_goals (split <;> simp)
  · rfl
@[simp] theorem takeBlock_lampFlt (c : Chan) (w : BitVec 32) (s : State) : (s.takeBlock c w).swc.lampFlt = s.swc.lampFlt := by
  unfold takeBlock; split
  · split
    · simp
    all_goals (split <;> simp)
  · rfl
@[simp] theorem takeBlock_inUse (c : Chan) (w : BitVec 32) (s : State) (d : Chan) :
    (s.takeBlock c w).inUse d = s.inUse d := by
  simp [inUse]

/-! ### Compared bits, points and locks -/

@[simp] theorem takeLaneBit_identity (c : Chan) (ref : BitVec 31) (b : Bool) (s : State) :
    (s.takeLaneBit c ref b).identity = s.identity := by
  unfold takeLaneBit; dsimp only; split
  · split <;> rfl
  all_goals rfl
@[simp] theorem takeLaneBit_swc (c : Chan) (ref : BitVec 31) (b : Bool) (s : State) :
    (s.takeLaneBit c ref b).swc = s.swc := by
  unfold takeLaneBit; dsimp only; split
  · split <;> rfl
  all_goals rfl
@[simp] theorem takeLaneBit_lif (c : Chan) (ref : BitVec 31) (b : Bool) (s : State) :
    (s.takeLaneBit c ref b).lif = s.lif := by
  unfold takeLaneBit; dsimp only; split
  · split <;> rfl
  all_goals rfl
@[simp] theorem takeLaneBit_spu (c : Chan) (ref : BitVec 31) (b : Bool) (s : State) :
    (s.takeLaneBit c ref b).spu = s.spu := by
  unfold takeLaneBit; dsimp only; split
  · split <;> rfl
  all_goals rfl
@[simp] theorem takeLaneBit_emn (c : Chan) (ref : BitVec 31) (b : Bool) (s : State) :
    (s.takeLaneBit c ref b).emn = s.emn := by
  unfold takeLaneBit; dsimp only; split
  · split <;> rfl
  all_goals rfl
@[simp] theorem takeLaneBit_peers (c : Chan) (ref : BitVec 31) (b : Bool) (s : State) :
    (s.takeLaneBit c ref b).peers = s.peers := by
  unfold takeLaneBit; dsimp only; split
  · split <;> rfl
  all_goals rfl
@[simp] theorem takeLaneBit_cfe (c : Chan) (ref : BitVec 31) (b : Bool) (s : State) :
    (s.takeLaneBit c ref b).cfe = s.cfe := by
  unfold takeLaneBit; dsimp only; split
  · split <;> rfl
  all_goals rfl
@[simp] theorem takeLaneBit_pending (c : Chan) (ref : BitVec 31) (b : Bool) (s : State) :
    (s.takeLaneBit c ref b).pending = s.pending := by
  unfold takeLaneBit; dsimp only; split
  · split <;> rfl
  all_goals rfl
@[simp] theorem takeLaneBit_inUse (c : Chan) (ref : BitVec 31) (b : Bool) (s : State) (d : Chan) :
    (s.takeLaneBit c ref b).inUse d = s.inUse d := by
  simp [inUse]
@[simp] theorem startPoint_identity (c : Chan) (pr : Procedure) (pt : EyePoint) (s : State) :
    (s.startPoint c pr pt).identity = s.identity := rfl
@[simp] theorem startPoint_swc (c : Chan) (pr : Procedure) (pt : EyePoint) (s : State) :
    (s.startPoint c pr pt).swc = s.swc := rfl
@[simp] theorem startPoint_lif (c : Chan) (pr : Procedure) (pt : EyePoint) (s : State) :
    (s.startPoint c pr pt).lif = s.lif := rfl
@[simp] theorem startPoint_spu (c : Chan) (pr : Procedure) (pt : EyePoint) (s : State) :
    (s.startPoint c pr pt).spu = s.spu := rfl
@[simp] theorem startPoint_channels (c : Chan) (pr : Procedure) (pt : EyePoint) (s : State) :
    (s.startPoint c pr pt).channels = s.channels := rfl
@[simp] theorem startPoint_peers (c : Chan) (pr : Procedure) (pt : EyePoint) (s : State) :
    (s.startPoint c pr pt).peers = s.peers := rfl
@[simp] theorem startPoint_cfe (c : Chan) (pr : Procedure) (pt : EyePoint) (s : State) :
    (s.startPoint c pr pt).cfe = s.cfe := rfl
@[simp] theorem startPoint_pending (c : Chan) (pr : Procedure) (pt : EyePoint) (s : State) :
    (s.startPoint c pr pt).pending = s.pending := rfl
@[simp] theorem startPoint_chan (c : Chan) (pr : Procedure) (pt : EyePoint) (s : State) (d : Chan) :
    (s.startPoint c pr pt).chan d = s.chan d := rfl
@[simp] theorem startPoint_inUse (c : Chan) (pr : Procedure) (pt : EyePoint) (s : State) (d : Chan) :
    (s.startPoint c pr pt).inUse d = s.inUse d := rfl
@[simp] theorem settleScan_identity (c : Chan) (o : ScanOutcome) (figs : Option ScanFigures) (s : State) :
    (s.settleScan c o figs).identity = s.identity := rfl
@[simp] theorem settleScan_swc (c : Chan) (o : ScanOutcome) (figs : Option ScanFigures) (s : State) :
    (s.settleScan c o figs).swc = s.swc := rfl
@[simp] theorem settleScan_lif (c : Chan) (o : ScanOutcome) (figs : Option ScanFigures) (s : State) :
    (s.settleScan c o figs).lif = s.lif := rfl
@[simp] theorem settleScan_spu (c : Chan) (o : ScanOutcome) (figs : Option ScanFigures) (s : State) :
    (s.settleScan c o figs).spu = s.spu := rfl
@[simp] theorem settleScan_emn (c : Chan) (o : ScanOutcome) (figs : Option ScanFigures) (s : State) :
    (s.settleScan c o figs).emn = s.emn := rfl
@[simp] theorem settleScan_peers (c : Chan) (o : ScanOutcome) (figs : Option ScanFigures) (s : State) :
    (s.settleScan c o figs).peers = s.peers := rfl
@[simp] theorem settleScan_cfe (c : Chan) (o : ScanOutcome) (figs : Option ScanFigures) (s : State) :
    (s.settleScan c o figs).cfe = s.cfe := rfl
@[simp] theorem settleScan_pending (c : Chan) (o : ScanOutcome) (figs : Option ScanFigures) (s : State) :
    (s.settleScan c o figs).pending = s.pending := rfl
@[simp] theorem settleScan_inUse (c : Chan) (o : ScanOutcome) (figs : Option ScanFigures) (s : State) (d : Chan) :
    (s.settleScan c o figs).inUse d = s.inUse d := rfl
@[simp] theorem lock_identity (c : Chan) (s : State) : (s.lock c).identity = s.identity := by
  unfold lock; split
  · dsimp only; split <;> rfl
  all_goals rfl
@[simp] theorem lock_swc (c : Chan) (s : State) : (s.lock c).swc = s.swc := by
  unfold lock; split
  · dsimp only; split <;> rfl
  all_goals rfl
@[simp] theorem lock_lif (c : Chan) (s : State) : (s.lock c).lif = s.lif := by
  unfold lock; split
  · dsimp only; split <;> rfl
  all_goals rfl
@[simp] theorem lock_spu (c : Chan) (s : State) : (s.lock c).spu = s.spu := by
  unfold lock; split
  · dsimp only; split <;> rfl
  all_goals rfl
@[simp] theorem lock_peers (c : Chan) (s : State) : (s.lock c).peers = s.peers := by
  unfold lock; split
  · dsimp only; split <;> rfl
  all_goals rfl
@[simp] theorem lock_cfe (c : Chan) (s : State) : (s.lock c).cfe = s.cfe := by
  unfold lock; split
  · dsimp only; split <;> rfl
  all_goals rfl
@[simp] theorem lock_pending (c : Chan) (s : State) : (s.lock c).pending = s.pending := by
  unfold lock; split
  · dsimp only; split <;> rfl
  all_goals rfl
@[simp] theorem lock_inUse (c : Chan) (s : State) (d : Chan) : (s.lock c).inUse d = s.inUse d := by
  simp [inUse]

/-! ### Limits -/

@[simp] theorem expireItems_identity (st : Stage) (s : State) : (s.expireItems st).identity = s.identity := rfl
@[simp] theorem expireItems_swc (st : Stage) (s : State) : (s.expireItems st).swc = s.swc := rfl
@[simp] theorem expireItems_lif (st : Stage) (s : State) : (s.expireItems st).lif = s.lif := rfl
@[simp] theorem expireItems_spu (st : Stage) (s : State) : (s.expireItems st).spu = s.spu := rfl
@[simp] theorem expireItems_peers (st : Stage) (s : State) : (s.expireItems st).peers = s.peers := rfl
@[simp] theorem expireItems_cfe (st : Stage) (s : State) : (s.expireItems st).cfe = s.cfe := rfl
@[simp] theorem expireItems_pending (st : Stage) (s : State) : (s.expireItems st).pending = s.pending := rfl
@[simp] theorem expireItems_inUse (st : Stage) (s : State) (d : Chan) : (s.expireItems st).inUse d = s.inUse d := rfl
@[simp] theorem markLimit_identity (s : State) : (s.markLimit).identity = s.identity := rfl
@[simp] theorem markLimit_lif (s : State) : (s.markLimit).lif = s.lif := rfl
@[simp] theorem markLimit_spu (s : State) : (s.markLimit).spu = s.spu := rfl
@[simp] theorem markLimit_channels (s : State) : (s.markLimit).channels = s.channels := rfl
@[simp] theorem markLimit_emn (s : State) : (s.markLimit).emn = s.emn := rfl
@[simp] theorem markLimit_peers (s : State) : (s.markLimit).peers = s.peers := rfl
@[simp] theorem markLimit_cfe (s : State) : (s.markLimit).cfe = s.cfe := rfl
@[simp] theorem markLimit_pending (s : State) : (s.markLimit).pending = s.pending := rfl
@[simp] theorem markLimit_station (s : State) : (s.markLimit).swc.station = s.swc.station := rfl
@[simp] theorem markLimit_params (s : State) : (s.markLimit).swc.params = s.swc.params := rfl
@[simp] theorem markLimit_released (s : State) : (s.markLimit).swc.released = s.swc.released := rfl
@[simp] theorem markLimit_haltReason (s : State) : (s.markLimit).swc.haltReason = s.swc.haltReason := rfl
@[simp] theorem markLimit_settleDelay (s : State) : (s.markLimit).swc.settleDelay = s.swc.settleDelay := rfl
@[simp] theorem markLimit_chan (s : State) (c : Chan) : s.markLimit.chan c = s.chan c := rfl
@[simp] theorem markLimit_inUse (s : State) (d : Chan) : (s.markLimit).inUse d = s.inUse d := rfl

/-! ### A whole failed attempt and a whole lock loss -/

@[simp] theorem failAttempt_identity (c : Chan) (s : State) : (s.failAttempt c).identity = s.identity := by
  simp [failAttempt]
@[simp] theorem failAttempt_spu (c : Chan) (s : State) : (s.failAttempt c).spu = s.spu := by
  simp [failAttempt]
@[simp] theorem failAttempt_cfe (c : Chan) (s : State) : (s.failAttempt c).cfe = s.cfe := by
  simp [failAttempt]
@[simp] theorem failAttempt_pending (c : Chan) (s : State) : (s.failAttempt c).pending = s.pending := by
  simp [failAttempt]
@[simp] theorem failAttempt_station (c : Chan) (s : State) : (s.failAttempt c).swc.station = s.swc.station := by
  simp [failAttempt]
@[simp] theorem failAttempt_params (c : Chan) (s : State) : (s.failAttempt c).swc.params = s.swc.params := by
  simp [failAttempt]
@[simp] theorem failAttempt_haltReason (c : Chan) (s : State) : (s.failAttempt c).swc.haltReason = s.swc.haltReason := by
  simp [failAttempt]
@[simp] theorem failAttempt_inUse (c : Chan) (s : State) (d : Chan) : (s.failAttempt c).inUse d = s.inUse d := by
  simp [failAttempt]
@[simp] theorem loseLock_identity (c : Chan) (s : State) : (s.loseLock c).identity = s.identity := by
  unfold loseLock; split
  · simp
  all_goals rfl
@[simp] theorem loseLock_spu (c : Chan) (s : State) : (s.loseLock c).spu = s.spu := by
  unfold loseLock; split
  · simp
  all_goals rfl
@[simp] theorem loseLock_cfe (c : Chan) (s : State) : (s.loseLock c).cfe = s.cfe := by
  unfold loseLock; split
  · simp
  all_goals rfl
@[simp] theorem loseLock_pending (c : Chan) (s : State) : (s.loseLock c).pending = s.pending := by
  unfold loseLock; split
  · simp
  all_goals rfl
@[simp] theorem loseLock_station (c : Chan) (s : State) : (s.loseLock c).swc.station = s.swc.station := by
  unfold loseLock; split
  · simp
  all_goals rfl
@[simp] theorem loseLock_params (c : Chan) (s : State) : (s.loseLock c).swc.params = s.swc.params := by
  unfold loseLock; split
  · simp
  all_goals rfl
@[simp] theorem loseLock_haltReason (c : Chan) (s : State) : (s.loseLock c).swc.haltReason = s.swc.haltReason := by
  unfold loseLock; split
  · simp
  all_goals rfl
@[simp] theorem loseLock_inUse (c : Chan) (s : State) (d : Chan) : (s.loseLock c).inUse d = s.inUse d := by
  unfold loseLock; split
  · simp
  all_goals rfl
@[simp] theorem failAttempt_limitExpired (c : Chan) (s : State) : (s.failAttempt c).swc.limitExpired = s.swc.limitExpired := by
  simp [failAttempt]
@[simp] theorem loseLock_limitExpired (c : Chan) (s : State) : (s.loseLock c).swc.limitExpired = s.swc.limitExpired := by
  unfold loseLock; split
  · simp
  all_goals rfl
@[simp] theorem failAttempt_foreignSweep (c : Chan) (s : State) : (s.failAttempt c).swc.foreignSweep = s.swc.foreignSweep := by
  simp [failAttempt]
@[simp] theorem loseLock_foreignSweep (c : Chan) (s : State) : (s.loseLock c).swc.foreignSweep = s.swc.foreignSweep := by
  unfold loseLock; split
  · simp
  all_goals rfl
@[simp] theorem failAttempt_lampOk (c : Chan) (s : State) : (s.failAttempt c).swc.lampOk = s.swc.lampOk := by
  simp [failAttempt]
@[simp] theorem loseLock_lampOk (c : Chan) (s : State) : (s.loseLock c).swc.lampOk = s.swc.lampOk := by
  unfold loseLock; split
  · simp
  all_goals rfl
@[simp] theorem failAttempt_lampFlt (c : Chan) (s : State) : (s.failAttempt c).swc.lampFlt = s.swc.lampFlt := by
  simp [failAttempt]
@[simp] theorem loseLock_lampFlt (c : Chan) (s : State) : (s.loseLock c).swc.lampFlt = s.swc.lampFlt := by
  unfold loseLock; split
  · simp
  all_goals rfl
@[simp] theorem failAttempt_settleDelay (c : Chan) (s : State) : (s.failAttempt c).swc.settleDelay = s.swc.settleDelay := by
  simp [failAttempt]
@[simp] theorem loseLock_settleDelay (c : Chan) (s : State) : (s.loseLock c).swc.settleDelay = s.swc.settleDelay := by
  unfold loseLock; split
  · simp
  all_goals rfl
@[simp] theorem failAttempt_flags (c : Chan) (s : State) : (s.failAttempt c).swc.flags = s.swc.flags := by
  simp [failAttempt]
@[simp] theorem loseLock_flags (c : Chan) (s : State) : (s.loseLock c).swc.flags = s.swc.flags := by
  unfold loseLock; split
  · simp
  all_goals rfl

/-! ### Stage entry -/

@[simp] theorem beginStage_identity (st : Stage) (s : State) : (s.beginStage st).identity = s.identity := rfl
@[simp] theorem beginStage_lif (st : Stage) (s : State) : (s.beginStage st).lif = s.lif := rfl
@[simp] theorem beginStage_spu (st : Stage) (s : State) : (s.beginStage st).spu = s.spu := rfl
@[simp] theorem beginStage_channels (st : Stage) (s : State) : (s.beginStage st).channels = s.channels := rfl
@[simp] theorem beginStage_emn (st : Stage) (s : State) : (s.beginStage st).emn = s.emn := rfl
@[simp] theorem beginStage_peers (st : Stage) (s : State) : (s.beginStage st).peers = s.peers := rfl
@[simp] theorem beginStage_cfe (st : Stage) (s : State) : (s.beginStage st).cfe = s.cfe := rfl
@[simp] theorem beginStage_pending (st : Stage) (s : State) : (s.beginStage st).pending = s.pending := rfl
@[simp] theorem beginStage_station (st : Stage) (s : State) : (s.beginStage st).swc.station = .inStage st := rfl
@[simp] theorem beginStage_params (st : Stage) (s : State) : (s.beginStage st).swc.params = s.swc.params := rfl
@[simp] theorem beginStage_released (st : Stage) (s : State) : (s.beginStage st).swc.released = false := rfl
@[simp] theorem beginStage_chan (st : Stage) (s : State) (c : Chan) : (s.beginStage st).chan c = s.chan c := rfl
@[simp] theorem beginStage_inUse (st : Stage) (s : State) (d : Chan) : (s.beginStage st).inUse d = s.inUse d := rfl
@[simp] theorem startSettleDelay_identity (s : State) : (s.startSettleDelay).identity = s.identity := rfl
@[simp] theorem startSettleDelay_lif (s : State) : (s.startSettleDelay).lif = s.lif := rfl
@[simp] theorem startSettleDelay_spu (s : State) : (s.startSettleDelay).spu = s.spu := rfl
@[simp] theorem startSettleDelay_channels (s : State) : (s.startSettleDelay).channels = s.channels := rfl
@[simp] theorem startSettleDelay_emn (s : State) : (s.startSettleDelay).emn = s.emn := rfl
@[simp] theorem startSettleDelay_peers (s : State) : (s.startSettleDelay).peers = s.peers := rfl
@[simp] theorem startSettleDelay_cfe (s : State) : (s.startSettleDelay).cfe = s.cfe := rfl
@[simp] theorem startSettleDelay_pending (s : State) : (s.startSettleDelay).pending = s.pending := rfl
@[simp] theorem startSettleDelay_station (s : State) : (s.startSettleDelay).swc.station = s.swc.station := rfl
@[simp] theorem startSettleDelay_params (s : State) : (s.startSettleDelay).swc.params = s.swc.params := rfl
@[simp] theorem startSettleDelay_released (s : State) : (s.startSettleDelay).swc.released = s.swc.released := rfl
@[simp] theorem startSettleDelay_chan (s : State) (c : Chan) : s.startSettleDelay.chan c = s.chan c := rfl
@[simp] theorem startSettleDelay_inUse (s : State) (d : Chan) : (s.startSettleDelay).inUse d = s.inUse d := rfl
@[simp] theorem enterWork_identity (st : Stage) (s : State) : (s.enterWork st).identity = s.identity := by
  cases st <;> simp [enterWork]
@[simp] theorem enterWork_lif (st : Stage) (s : State) : (s.enterWork st).lif = s.lif := by
  cases st <;> simp [enterWork]
@[simp] theorem enterWork_peers (st : Stage) (s : State) : (s.enterWork st).peers = s.peers := by
  cases st <;> simp [enterWork]
@[simp] theorem enterWork_pending (st : Stage) (s : State) : (s.enterWork st).pending = s.pending := by
  cases st <;> simp [enterWork]
@[simp] theorem enterWork_station (st : Stage) (s : State) : (s.enterWork st).swc.station = s.swc.station := by
  cases st <;> simp [enterWork]
@[simp] theorem enterWork_params (st : Stage) (s : State) : (s.enterWork st).swc.params = s.swc.params := by
  cases st <;> simp [enterWork]
@[simp] theorem enterWork_released (st : Stage) (s : State) : (s.enterWork st).swc.released = s.swc.released := by
  cases st <;> simp [enterWork]
@[simp] theorem enterWork_inUse (st : Stage) (s : State) (d : Chan) : (s.enterWork st).inUse d = s.inUse d := by
  cases st <;> simp [enterWork]
@[simp] theorem beginStage_haltReason (st : Stage) (s : State) : (s.beginStage st).swc.haltReason = s.swc.haltReason := rfl
@[simp] theorem startSettleDelay_haltReason (s : State) : s.startSettleDelay.swc.haltReason = s.swc.haltReason := rfl
@[simp] theorem enterWork_haltReason (st : Stage) (s : State) : (s.enterWork st).swc.haltReason = s.swc.haltReason := by
  cases st <;> simp [enterWork]
@[simp] theorem beginStage_foreignSweep (st : Stage) (s : State) : (s.beginStage st).swc.foreignSweep = s.swc.foreignSweep := rfl
@[simp] theorem startSettleDelay_foreignSweep (s : State) : s.startSettleDelay.swc.foreignSweep = s.swc.foreignSweep := rfl
@[simp] theorem enterWork_foreignSweep (st : Stage) (s : State) : (s.enterWork st).swc.foreignSweep = s.swc.foreignSweep := by
  cases st <;> simp [enterWork]
@[simp] theorem markLimit_foreignSweep (s : State) : s.markLimit.swc.foreignSweep = s.swc.foreignSweep := rfl
@[simp] theorem beginStage_flags (st : Stage) (s : State) : (s.beginStage st).swc.flags = s.swc.flags := rfl
@[simp] theorem startSettleDelay_flags (s : State) : s.startSettleDelay.swc.flags = s.swc.flags := rfl
@[simp] theorem enterWork_flags (st : Stage) (s : State) : (s.enterWork st).swc.flags = s.swc.flags := by
  cases st <;> simp [enterWork]
@[simp] theorem markLimit_flags (s : State) : s.markLimit.swc.flags = s.swc.flags := rfl
@[simp] theorem beginStage_lampOk (st : Stage) (s : State) : (s.beginStage st).swc.lampOk = s.swc.lampOk := rfl
@[simp] theorem startSettleDelay_lampOk (s : State) : s.startSettleDelay.swc.lampOk = s.swc.lampOk := rfl
@[simp] theorem enterWork_lampOk (st : Stage) (s : State) : (s.enterWork st).swc.lampOk = s.swc.lampOk := by
  cases st <;> simp [enterWork]
@[simp] theorem markLimit_lampOk (s : State) : s.markLimit.swc.lampOk = s.swc.lampOk := rfl
@[simp] theorem beginStage_lampFlt (st : Stage) (s : State) : (s.beginStage st).swc.lampFlt = s.swc.lampFlt := rfl
@[simp] theorem startSettleDelay_lampFlt (s : State) : s.startSettleDelay.swc.lampFlt = s.swc.lampFlt := rfl
@[simp] theorem enterWork_lampFlt (st : Stage) (s : State) : (s.enterWork st).swc.lampFlt = s.swc.lampFlt := by
  cases st <;> simp [enterWork]
@[simp] theorem markLimit_lampFlt (s : State) : s.markLimit.swc.lampFlt = s.swc.lampFlt := rfl

end Sys2Proof.Machine.State
end

