-- ==== Sys2Proof/Laws/Lines.lean ====
section
/-! SUPPORT. Each shared operation keeps the invariant of the lines (State.LinesWf). -/
namespace Sys2Proof.Machine
namespace State

theorem LinesWf.congr {s t : State} (h : s.LinesWf) (h1 : t.identity = s.identity)
    (h2 : t.swc.station = s.swc.station) (h3 : t.swc.released = s.swc.released) (h4 : t.lif = s.lif)
    (h5 : t.spu = s.spu) : t.LinesWf := by
  obtain ⟨a, b, c, d, e, f, g, i, j, k, l, m, n⟩ := h
  constructor <;> simp only [h1, h2, h3, h4, h5] <;> assumption

theorem LinesWf.release {s : State} (h : s.LinesWf) (hp : s.lif.phase ≠ .off) : s.release.LinesWf := by
  obtain ⟨a, b, c, d, e, f, g, i, j, k, l, m, n⟩ := h
  constructor <;> simp_all [Lif.releaseStep, Timer.isRunning]

theorem LinesWf.tryRelease {s : State} (h : s.LinesWf) : s.tryRelease.LinesWf := by
  rcases s.tryRelease_cases with e | ⟨e, hp, -, -⟩
  · rw [e]; exact h
  · rw [e]; exact h.release (by simp [hp])

theorem LinesWf.finish {b s : State} (h : s.LinesWf) : (finish b s).LinesWf := by
  rcases finish_cases b s with e | ⟨e, -, -, -⟩ <;> rw [e]
  · exact h.tryRelease
  · exact LinesWf.tryRelease (h.congr (by simp) (by simp) (by simp) (by simp) (by simp))

theorem LinesWf.enterDone {s : State} (h : s.LinesWf) (hs : s.swc.station ≠ .reset) (hp : s.swc.station ≠ .inStage .static) :
    s.enterDone.LinesWf := by
  obtain ⟨a, b, c, d, e, f, g, i, j, k, l, m, n⟩ := h
  constructor <;> simp_all [Lif.leaveBarrier, Lif.releaseStop, Timer.isRunning, StationState.inSomeStage]

theorem LinesWf.haltIn {s : State} {st : Stage} (h : s.LinesWf) (hs : s.swc.station = .inStage st) (why : HaltReason) :
    (s.haltIn why st).LinesWf := by
  obtain ⟨a, b, c, d, e, f, g, i, j, k, l, m, n⟩ := h
  constructor <;> simp_all [Lif.leaveBarrier, Timer.isRunning, StationState.inSomeStage]

theorem LinesWf.halt {s : State} (h : s.LinesWf) (why : HaltReason) : (s.halt why).LinesWf := by
  rcases s.halt_cases why with ⟨st, -, hs, e⟩ | ⟨e, -⟩ <;> rw [e]
  · exact h.haltIn hs why
  · exact h

theorem LinesWf.pullStop {s : State} (h : s.LinesWf) (hs : s.swc.station.inSomeStage = true ∨ ∃ st, s.swc.station = .halted st) :
    (s.mapLif Lif.pullStop).LinesWf := by
  have hr : s.swc.station ≠ .reset := by rcases hs with hs | ⟨st, hs⟩ <;> intro e <;> simp_all [StationState.inSomeStage]
  obtain ⟨a, b, c, d, e, f, g, i, j, k, l, m, n⟩ := h
  have hrun : (if s.lif.stopLine = .high then StopRun.timing else s.lif.stopRun) ≠ .untimed := by
    split <;> simp_all
  constructor <;> simp_all [Lif.pullStop]

theorem LinesWf.haltIfStopAll {s : State} (h : s.LinesWf) (why : HaltReason) : (s.haltIfStopAll why).LinesWf := by
  rcases s.haltIfStopAll_cases why with ⟨-, e⟩ | ⟨-, e⟩ <;> rw [e]
  · exact h.halt why
  · exact h

theorem LinesWf.setFlags {s : State} (h : s.LinesWf) (f : StationFlags → StationFlags) : (s.setFlags f).LinesWf :=
  h.congr rfl rfl rfl rfl rfl

theorem LinesWf.refreshLamps {s : State} (h : s.LinesWf) : s.refreshLamps.LinesWf := h.congr rfl rfl rfl rfl rfl

theorem LinesWf.takeSlotConflict {s : State} (h : s.LinesWf) : s.takeSlotConflict.LinesWf := by
  unfold State.takeSlotConflict
  dsimp only
  split
  · exact h.setFlags _
  · exact h.setFlags _
  · exact (h.setFlags _).refreshLamps
  · rename_i hs; exact (LinesWf.pullStop (h.setFlags _) (by simp [hs, StationState.inSomeStage])).haltIfStopAll _
  · rename_i hs; exact LinesWf.pullStop (h.setFlags _) (by simp [hs, StationState.inSomeStage])
  · exact h
  · exact h

theorem LinesWf.takeStopSeen {s : State} (h : s.LinesWf) : s.takeStopSeen.LinesWf :=
  LinesWf.haltIfStopAll (h.setFlags _) _

theorem LinesWf.receive {s t : State} (h : s.LinesWf) {ok : Bool} {take : State → State}
    (ht : ∀ u : State, u.LinesWf → u.swc.station ≠ .reset → (take u).LinesWf) (e : receive ok take s = .next t) : t.LinesWf := by
  unfold Machine.receive at e
  split at e
  · rename_i hs
    split at e <;> cases e
    · exact ht _ (h.congr rfl rfl rfl rfl rfl) (by simpa using hs.1)
    · exact h.congr rfl rfl rfl rfl rfl
  · cases e; exact h

theorem LinesWf.openSweep {s : State} (h : s.LinesWf) (hs : s.swc.station = .listen ∨ s.swc.station = .done) (f : BeginFields) :
    (s.openSweep f).LinesWf := by
  obtain ⟨a, b, c, d, e, g, g', i, j, k, l, m, n⟩ := h
  rcases hs with hs | hs <;>
  constructor <;> simp_all [State.openSweep, Lif.pullStep, StationState.inSomeStage]

theorem LinesWf.takeBegin {s : State} (h : s.LinesWf) (f : BeginFields) : (s.takeBegin f).LinesWf := by
  have acc : s.swc.station = .listen ∨ s.swc.station = .done → (s.acceptBegin f).LinesWf := by
    intro hs
    have h1 := (h.openSweep hs f).refreshLamps
    unfold State.acceptBegin
    dsimp only
    split
    · exact h1.takeStopSeen
    · exact h1
  unfold State.takeBegin
  split
  · exact acc (by simp [*])
  · exact acc (by simp [*])
  · exact h.congr rfl rfl rfl rfl rfl
  all_goals exact h

theorem LinesWf.noteTaggedFrame {s : State} (h : s.LinesWf) : s.noteTaggedFrame.LinesWf := by
  unfold State.noteTaggedFrame
  split
  · exact h.congr rfl rfl rfl rfl rfl
  · exact h

theorem LinesWf.takeCease {s : State} (h : s.LinesWf) (tag : Byte) : (s.takeCease tag).LinesWf := by
  unfold State.takeCease
  split
  · exact h.noteTaggedFrame
  · split
    · exact h.halt _
    · exact h
  all_goals exact h

theorem LinesWf.takePresent {s : State} (h : s.LinesWf) (src : Byte) (f : PresentFields) : (s.takePresent src f).LinesWf := by
  unfold State.takePresent
  split
  · exact h.noteTaggedFrame
  · split
    · exact h
    · split
      · exact h.takeSlotConflict
      · exact h.congr rfl rfl rfl rfl rfl
  · exact h

theorem LinesWf.takeRecall {s : State} (h : s.LinesWf) (f : RecallFields) : (s.takeRecall f).LinesWf := by
  unfold State.takeRecall
  split
  · exact h.congr rfl rfl rfl rfl rfl
  · exact h

theorem LinesWf.afterRemoval {s : State} (h : s.LinesWf) (e : Entry) : (s.afterRemoval e).LinesWf := by
  unfold State.afterRemoval
  split
  · split
    · exact h.congr rfl rfl rfl rfl rfl
    · split
      · exact h.enterDone (by simp [*]) (by simp [*])
      · exact h
  · exact h.tryRelease
  all_goals exact h

theorem LinesWf.loseFrame {s : State} (h : s.LinesWf) (lf : LineFrame) : (s.loseFrame lf).LinesWf := by
  unfold State.loseFrame
  dsimp only
  split
  · refine LinesWf.afterRemoval (s := (s.mapCfe _).mapCfe _) ?_ _
    exact h.congr rfl rfl rfl rfl rfl
  · exact h.congr rfl rfl rfl rfl rfl

theorem LinesWf.failAttempt {s : State} (h : s.LinesWf) (c : Chan) : (s.failAttempt c).LinesWf :=
  LinesWf.finish (h.congr (by simp) (by simp) (by simp) (by simp) (by simp))

theorem LinesWf.loseLock {s : State} (h : s.LinesWf) (c : Chan) : (s.loseLock c).LinesWf := by
  unfold State.loseLock
  split
  · exact LinesWf.finish (h.congr (by simp) (by simp) (by simp) (by simp) (by simp))
  all_goals exact h

/-- The barrier is taken into the next stage. -/
theorem LinesWf.takeBarrier {s : State} {st st' : Stage} (h : s.LinesWf) (hs : s.swc.station = .inStage st)
    (hn : st.next = some st') (hw : s.lif.phase = .waiting) : ((s.mapLif Lif.startHoldOff).enterStage st').LinesWf := by
  have hp : ((s.mapLif Lif.startHoldOff).enterStage st').spu ≠ .idle →
      ((s.mapLif Lif.startHoldOff).enterStage st').swc.station = .inStage .static := by
    have := h.probe_static
    cases st <;> simp [Stage.next] at hn <;> subst hn <;> simp [State.enterStage, State.enterWork] <;> simp_all
  obtain ⟨a, b, c, d, e, f, g, i, j, k, l, m, n⟩ := h
  constructor
  case probe_static => exact hp
  all_goals simp_all [State.enterStage, Lif.startHoldOff, StationState.inSomeStage, Timer.isRunning]

end State

end Sys2Proof.Machine
end

