-- ==== Sys2Proof/Laws/Stages.lean ====
section
/-! SUPPORT. What stage entry does to a channel's record, stage by stage (R23 to R27). -/
namespace Sys2Proof.Machine.State

theorem enterStage_static_chan (s : State) (c : Chan) : (s.enterStage .static).chan c = s.chan c := rfl

theorem enterStage_identify_chan (s : State) (c : Chan) :
    (s.enterStage .identify).chan c = if s.inUse c then (s.chan c).enterIdentify else s.chan c := by
  simp only [enterStage, enterWork, mapInUse_chan]; rfl

theorem enterStage_soak_chan (s : State) (c : Chan) :
    (s.enterStage .soak).chan c = if s.inUse c then (s.chan c).enterSoak else s.chan c := by
  simp only [enterStage, enterWork, mapInUse_chan]; rfl

theorem enterStage_report_chan (s : State) (c : Chan) :
    (s.enterStage .report).chan c = if s.inUse c then (s.chan c).enterReport else s.chan c := by
  simp only [enterStage, enterWork, queueReports_chan, mapEmn_chan, mapInUse_chan]; rfl

/-- STRESS entry up to its grant decision. -/
def stressRequests (s : State) : State :=
  (((s.beginStage .stress).startSettleDelay.mapEmn fun m => m.setQueue (m.scanQueue ++ s.lockedChans)).mapInUse
    fun _ r => r.enterStress s.swc.params)

theorem enterStage_stress (s : State) : s.enterStage .stress = s.stressRequests.arbitrate := rfl

theorem stressRequests_chan (s : State) (c : Chan) :
    s.stressRequests.chan c = if s.inUse c then (s.chan c).enterStress s.swc.params else s.chan c := by
  simp only [stressRequests, mapInUse_chan]; rfl

/-- The grant decision at STRESS entry changes of a record only the receiver state or the scan items. -/
theorem enterStage_stress_chan (s : State) (c : Chan) :
    (s.enterStage .stress).chan c = { s.stressRequests.chan c with
      rx := { (s.stressRequests.chan c).rx with state := ((s.enterStage .stress).chan c).rx.state }
      scan := ((s.enterStage .stress).chan c).scan } := by
  rw [enterStage_stress]; exact arbitrate_chan _ c

@[simp] theorem enterStage_inUse (st : Stage) (s : State) (c : Chan) : (s.enterStage st).inUse c = s.inUse c := by
  simp [enterStage]
@[simp] theorem enterStage_identity (st : Stage) (s : State) : (s.enterStage st).identity = s.identity := by
  simp [enterStage]
@[simp] theorem enterStage_station (st : Stage) (s : State) : (s.enterStage st).swc.station = .inStage st := by
  simp [enterStage]
@[simp] theorem enterStage_params (st : Stage) (s : State) : (s.enterStage st).swc.params = s.swc.params := by
  simp [enterStage]
@[simp] theorem enterStage_released (st : Stage) (s : State) : (s.enterStage st).swc.released = false := by
  simp [enterStage]
@[simp] theorem enterStage_lif (st : Stage) (s : State) : (s.enterStage st).lif = s.lif := by
  simp [enterStage]
@[simp] theorem enterStage_peers (st : Stage) (s : State) : (s.enterStage st).peers = s.peers := by
  simp [enterStage]
@[simp] theorem enterStage_pending (st : Stage) (s : State) : (s.enterStage st).pending = s.pending := by
  simp [enterStage]

end Sys2Proof.Machine.State
end

