-- ==== Sys2Proof/Laws/Records.lean ====
section
/-! SUPPORT. Which items of a Channel Record each record operation leaves alone. -/
namespace Sys2Proof.Machine

@[simp] theorem Channel.noteFault_static (st : Stage) (k : FaultKind) (n : Nat) (r : Channel) :
    (r.noteFault st k n).static = r.static := by
  unfold Channel.noteFault; split <;> rfl
@[simp] theorem Channel.noteFault_tx (st : Stage) (k : FaultKind) (n : Nat) (r : Channel) :
    (r.noteFault st k n).tx = r.tx := by
  unfold Channel.noteFault; split <;> rfl
@[simp] theorem Channel.noteFault_rx (st : Stage) (k : FaultKind) (n : Nat) (r : Channel) :
    (r.noteFault st k n).rx = r.rx := by
  unfold Channel.noteFault; split <;> rfl
@[simp] theorem Channel.noteFault_ident (st : Stage) (k : FaultKind) (n : Nat) (r : Channel) :
    (r.noteFault st k n).ident = r.ident := by
  unfold Channel.noteFault; split <;> rfl
@[simp] theorem Channel.noteFault_soak (st : Stage) (k : FaultKind) (n : Nat) (r : Channel) :
    (r.noteFault st k n).soak = r.soak := by
  unfold Channel.noteFault; split <;> rfl
@[simp] theorem Channel.noteFault_stress (st : Stage) (k : FaultKind) (n : Nat) (r : Channel) :
    (r.noteFault st k n).stress = r.stress := by
  unfold Channel.noteFault; split <;> rfl
@[simp] theorem Channel.noteFault_scan (st : Stage) (k : FaultKind) (n : Nat) (r : Channel) :
    (r.noteFault st k n).scan = r.scan := by
  unfold Channel.noteFault; split <;> rfl

@[simp] theorem Channel.mapCount_static (st : Stage) (f : StageCount → StageCount) (r : Channel) :
    (r.mapCount st f).static = r.static := by
  cases st <;> rfl
@[simp] theorem Channel.mapCount_tx (st : Stage) (f : StageCount → StageCount) (r : Channel) :
    (r.mapCount st f).tx = r.tx := by
  cases st <;> rfl
@[simp] theorem Channel.mapCount_rx (st : Stage) (f : StageCount → StageCount) (r : Channel) :
    (r.mapCount st f).rx = r.rx := by
  cases st <;> rfl
@[simp] theorem Channel.mapCount_ident (st : Stage) (f : StageCount → StageCount) (r : Channel) :
    (r.mapCount st f).ident = r.ident := by
  cases st <;> rfl
@[simp] theorem Channel.mapCount_snapshot (st : Stage) (f : StageCount → StageCount) (r : Channel) :
    (r.mapCount st f).snapshot = r.snapshot := by
  cases st <;> rfl
@[simp] theorem Channel.mapCount_scan (st : Stage) (f : StageCount → StageCount) (r : Channel) :
    (r.mapCount st f).scan = r.scan := by
  cases st <;> rfl

@[simp] theorem takeTokenRecord_static (st : Stage) (k : MappingClass) (src : Source) (r : Channel) :
    (takeTokenRecord st k src r).static = r.static := by
  unfold takeTokenRecord; dsimp only; split <;> simp
@[simp] theorem takeTokenRecord_tx (st : Stage) (k : MappingClass) (src : Source) (r : Channel) :
    (takeTokenRecord st k src r).tx = r.tx := by
  unfold takeTokenRecord; dsimp only; split <;> simp
@[simp] theorem takeTokenRecord_rx (st : Stage) (k : MappingClass) (src : Source) (r : Channel) :
    (takeTokenRecord st k src r).rx = r.rx := by
  unfold takeTokenRecord; dsimp only; split <;> simp
@[simp] theorem takeTokenRecord_soak (st : Stage) (k : MappingClass) (src : Source) (r : Channel) :
    (takeTokenRecord st k src r).soak = r.soak := by
  unfold takeTokenRecord; dsimp only; split <;> simp
@[simp] theorem takeTokenRecord_stress (st : Stage) (k : MappingClass) (src : Source) (r : Channel) :
    (takeTokenRecord st k src r).stress = r.stress := by
  unfold takeTokenRecord; dsimp only; split <;> simp
@[simp] theorem takeTokenRecord_scan (st : Stage) (k : MappingClass) (src : Source) (r : Channel) :
    (takeTokenRecord st k src r).scan = r.scan := by
  unfold takeTokenRecord; dsimp only; split <;> simp

@[simp] theorem State.loseRecord_static (st : Stage) (r : Channel) :
    (State.loseRecord st r).static = r.static := by
  simp [State.loseRecord]
@[simp] theorem State.loseRecord_tx (st : Stage) (r : Channel) :
    (State.loseRecord st r).tx = r.tx := by
  simp [State.loseRecord]
@[simp] theorem State.loseRecord_rx (st : Stage) (r : Channel) :
    (State.loseRecord st r).rx = r.rx := by
  simp [State.loseRecord]

@[simp] theorem State.lockRecord_static (st : Stage) (b : Bool) (r : Channel) :
    (State.lockRecord st b r).static = r.static := by
  unfold State.lockRecord; dsimp only; split <;> simp
@[simp] theorem State.lockRecord_tx (st : Stage) (b : Bool) (r : Channel) :
    (State.lockRecord st b r).tx = r.tx := by
  unfold State.lockRecord; dsimp only; split <;> simp
@[simp] theorem State.lockRecord_snapshot (st : Stage) (b : Bool) (r : Channel) :
    (State.lockRecord st b r).snapshot = r.snapshot := by
  unfold State.lockRecord; dsimp only; split <;> simp

@[simp] theorem takeComparedBit_static (st : Stage) (t : Nat) (b : Bool) (r : Channel) :
    (takeComparedBit st t b r).static = r.static := by
  unfold takeComparedBit; dsimp only; split <;> (try split) <;> (try split) <;> simp
@[simp] theorem takeComparedBit_tx (st : Stage) (t : Nat) (b : Bool) (r : Channel) :
    (takeComparedBit st t b r).tx = r.tx := by
  unfold takeComparedBit; dsimp only; split <;> (try split) <;> (try split) <;> simp
@[simp] theorem takeComparedBit_rx (st : Stage) (t : Nat) (b : Bool) (r : Channel) :
    (takeComparedBit st t b r).rx = r.rx := by
  unfold takeComparedBit; dsimp only; split <;> (try split) <;> (try split) <;> simp
@[simp] theorem takeComparedBit_ident (st : Stage) (t : Nat) (b : Bool) (r : Channel) :
    (takeComparedBit st t b r).ident = r.ident := by
  unfold takeComparedBit; dsimp only; split <;> (try split) <;> (try split) <;> simp
@[simp] theorem takeComparedBit_scan (st : Stage) (t : Nat) (b : Bool) (r : Channel) :
    (takeComparedBit st t b r).scan = r.scan := by
  unfold takeComparedBit; dsimp only; split <;> (try split) <;> (try split) <;> simp

@[simp] theorem advanceReference_static (ref : BitVec 31) (r : Channel) :
    (advanceReference ref r).static = r.static := rfl
@[simp] theorem advanceReference_tx (ref : BitVec 31) (r : Channel) :
    (advanceReference ref r).tx = r.tx := rfl
@[simp] theorem advanceReference_ident (ref : BitVec 31) (r : Channel) :
    (advanceReference ref r).ident = r.ident := rfl
@[simp] theorem advanceReference_soak (ref : BitVec 31) (r : Channel) :
    (advanceReference ref r).soak = r.soak := rfl
@[simp] theorem advanceReference_stress (ref : BitVec 31) (r : Channel) :
    (advanceReference ref r).stress = r.stress := rfl
@[simp] theorem advanceReference_snapshot (ref : BitVec 31) (r : Channel) :
    (advanceReference ref r).snapshot = r.snapshot := rfl
@[simp] theorem advanceReference_scan (ref : BitVec 31) (r : Channel) :
    (advanceReference ref r).scan = r.scan := rfl

@[simp] theorem expireRecord_static (st : Stage) (f : Source → MappingClass) (k : MappingClass) (r : Channel) :
    (expireRecord st f k r).static = r.static := by
  simp [expireRecord]
@[simp] theorem expireRecord_tx (st : Stage) (f : Source → MappingClass) (k : MappingClass) (r : Channel) :
    (expireRecord st f k r).tx = r.tx := by
  simp [expireRecord]
@[simp] theorem expireRecord_snapshot (st : Stage) (f : Source → MappingClass) (k : MappingClass) (r : Channel) :
    (expireRecord st f k r).snapshot = r.snapshot := by
  simp [expireRecord]

@[simp] theorem delayRecord_static (st : Stage) (r : Channel) :
    (delayRecord st r).static = r.static := by
  unfold delayRecord; split <;> simp
@[simp] theorem delayRecord_tx (st : Stage) (r : Channel) :
    (delayRecord st r).tx = r.tx := by
  unfold delayRecord; split <;> simp
@[simp] theorem delayRecord_rx (st : Stage) (r : Channel) :
    (delayRecord st r).rx = r.rx := by
  unfold delayRecord; split <;> simp
@[simp] theorem delayRecord_ident (st : Stage) (r : Channel) :
    (delayRecord st r).ident = r.ident := by
  unfold delayRecord; split <;> simp
@[simp] theorem delayRecord_snapshot (st : Stage) (r : Channel) :
    (delayRecord st r).snapshot = r.snapshot := by
  unfold delayRecord; split <;> simp
@[simp] theorem delayRecord_scan (st : Stage) (r : Channel) :
    (delayRecord st r).scan = r.scan := by
  unfold delayRecord; split <;> simp

@[simp] theorem setMiss_static (n : Nat) (r : Channel) :
    (setMiss n r).static = r.static := rfl
@[simp] theorem setMiss_tx (n : Nat) (r : Channel) :
    (setMiss n r).tx = r.tx := rfl
@[simp] theorem setMiss_ident (n : Nat) (r : Channel) :
    (setMiss n r).ident = r.ident := rfl
@[simp] theorem setMiss_soak (n : Nat) (r : Channel) :
    (setMiss n r).soak = r.soak := rfl
@[simp] theorem setMiss_stress (n : Nat) (r : Channel) :
    (setMiss n r).stress = r.stress := rfl
@[simp] theorem setMiss_snapshot (n : Nat) (r : Channel) :
    (setMiss n r).snapshot = r.snapshot := rfl
@[simp] theorem setMiss_scan (n : Nat) (r : Channel) :
    (setMiss n r).scan = r.scan := rfl

@[simp] theorem Channel.toRx_static (x : RxState) (r : Channel) :
    (r.toRx x).static = r.static := rfl
@[simp] theorem Channel.toRx_tx (x : RxState) (r : Channel) :
    (r.toRx x).tx = r.tx := rfl
@[simp] theorem Channel.toRx_ident (x : RxState) (r : Channel) :
    (r.toRx x).ident = r.ident := rfl
@[simp] theorem Channel.toRx_soak (x : RxState) (r : Channel) :
    (r.toRx x).soak = r.soak := rfl
@[simp] theorem Channel.toRx_stress (x : RxState) (r : Channel) :
    (r.toRx x).stress = r.stress := rfl
@[simp] theorem Channel.toRx_snapshot (x : RxState) (r : Channel) :
    (r.toRx x).snapshot = r.snapshot := rfl
@[simp] theorem Channel.toRx_scan (x : RxState) (r : Channel) :
    (r.toRx x).scan = r.scan := rfl

@[simp] theorem searchRecord_static (p : Polarity) (ref : BitVec 31) (r : Channel) :
    (searchRecord p ref r).static = r.static := rfl
@[simp] theorem searchRecord_tx (p : Polarity) (ref : BitVec 31) (r : Channel) :
    (searchRecord p ref r).tx = r.tx := rfl
@[simp] theorem searchRecord_ident (p : Polarity) (ref : BitVec 31) (r : Channel) :
    (searchRecord p ref r).ident = r.ident := rfl
@[simp] theorem searchRecord_soak (p : Polarity) (ref : BitVec 31) (r : Channel) :
    (searchRecord p ref r).soak = r.soak := rfl
@[simp] theorem searchRecord_stress (p : Polarity) (ref : BitVec 31) (r : Channel) :
    (searchRecord p ref r).stress = r.stress := rfl
@[simp] theorem searchRecord_snapshot (p : Polarity) (ref : BitVec 31) (r : Channel) :
    (searchRecord p ref r).snapshot = r.snapshot := rfl
@[simp] theorem searchRecord_scan (p : Polarity) (ref : BitVec 31) (r : Channel) :
    (searchRecord p ref r).scan = r.scan := rfl

@[simp] theorem Channel.enterIdentify_static (r : Channel) :
    r.enterIdentify.static = r.static := rfl
@[simp] theorem Channel.enterIdentify_soak (r : Channel) :
    r.enterIdentify.soak = r.soak := rfl
@[simp] theorem Channel.enterIdentify_stress (r : Channel) :
    r.enterIdentify.stress = r.stress := rfl
@[simp] theorem Channel.enterIdentify_snapshot (r : Channel) :
    r.enterIdentify.snapshot = r.snapshot := rfl
@[simp] theorem Channel.enterIdentify_scan (r : Channel) :
    r.enterIdentify.scan = r.scan := rfl

@[simp] theorem Channel.enterSoak_static (r : Channel) :
    r.enterSoak.static = r.static := rfl
@[simp] theorem Channel.enterSoak_tx (r : Channel) :
    r.enterSoak.tx = r.tx := rfl
@[simp] theorem Channel.enterSoak_ident (r : Channel) :
    r.enterSoak.ident = r.ident := rfl
@[simp] theorem Channel.enterSoak_stress (r : Channel) :
    r.enterSoak.stress = r.stress := rfl
@[simp] theorem Channel.enterSoak_snapshot (r : Channel) :
    r.enterSoak.snapshot = r.snapshot := rfl
@[simp] theorem Channel.enterSoak_scan (r : Channel) :
    r.enterSoak.scan = r.scan := rfl

@[simp] theorem Channel.enterStress_static (p : Params) (r : Channel) :
    (r.enterStress p).static = r.static := rfl
@[simp] theorem Channel.enterStress_ident (p : Params) (r : Channel) :
    (r.enterStress p).ident = r.ident := rfl
@[simp] theorem Channel.enterStress_soak (p : Params) (r : Channel) :
    (r.enterStress p).soak = r.soak := rfl
@[simp] theorem Channel.enterStress_snapshot (p : Params) (r : Channel) :
    (r.enterStress p).snapshot = r.snapshot := rfl

@[simp] theorem Channel.enterReport_static (r : Channel) :
    r.enterReport.static = r.static := rfl
@[simp] theorem Channel.enterReport_ident (r : Channel) :
    r.enterReport.ident = r.ident := rfl
@[simp] theorem Channel.enterReport_soak (r : Channel) :
    r.enterReport.soak = r.soak := rfl
@[simp] theorem Channel.enterReport_stress (r : Channel) :
    r.enterReport.stress = r.stress := rfl
@[simp] theorem Channel.enterReport_snapshot (r : Channel) :
    r.enterReport.snapshot = r.snapshot := rfl
@[simp] theorem Channel.enterReport_scan (r : Channel) :
    r.enterReport.scan = r.scan := rfl

@[simp] theorem Channel.haltRecord_static (r : Channel) :
    r.haltRecord.static = r.static := rfl
@[simp] theorem Channel.haltRecord_snapshot (r : Channel) :
    r.haltRecord.snapshot = r.snapshot := rfl

/-! ### What the lane operations leave alone of every record -/

namespace State

@[simp] theorem takeBlock_chan_static (c d : Chan) (w : BitVec 32) (s : State) :
    ((s.takeBlock c w).chan d).static = (s.chan d).static := by
  unfold takeBlock
  split
  · split
    · simp only [noteUncorrectable, takeNoToken, mapChan_chan]; split <;> simp
    all_goals
      split
      · unfold takeValidToken; dsimp only; split <;> simp only [mapChan_chan, offerToken_chan] <;> split <;> simp
      · simp only [takeNoToken, mapChan_chan]; split <;> rfl
  · rfl
@[simp] theorem takeBlock_chan_tx (c d : Chan) (w : BitVec 32) (s : State) :
    ((s.takeBlock c w).chan d).tx = (s.chan d).tx := by
  unfold takeBlock
  split
  · split
    · simp only [noteUncorrectable, takeNoToken, mapChan_chan]; split <;> simp
    all_goals
      split
      · unfold takeValidToken; dsimp only; split <;> simp only [mapChan_chan, offerToken_chan] <;> split <;> simp
      · simp only [takeNoToken, mapChan_chan]; split <;> rfl
  · rfl
@[simp] theorem takeBlock_chan_rx (c d : Chan) (w : BitVec 32) (s : State) :
    ((s.takeBlock c w).chan d).rx = (s.chan d).rx := by
  unfold takeBlock
  split
  · split
    · simp only [noteUncorrectable, takeNoToken, mapChan_chan]; split <;> simp
    all_goals
      split
      · unfold takeValidToken; dsimp only; split <;> simp only [mapChan_chan, offerToken_chan] <;> split <;> simp
      · simp only [takeNoToken, mapChan_chan]; split <;> rfl
  · rfl
@[simp] theorem takeBlock_chan_soak (c d : Chan) (w : BitVec 32) (s : State) :
    ((s.takeBlock c w).chan d).soak = (s.chan d).soak := by
  unfold takeBlock
  split
  · split
    · simp only [noteUncorrectable, takeNoToken, mapChan_chan]; split <;> simp
    all_goals
      split
      · unfold takeValidToken; dsimp only; split <;> simp only [mapChan_chan, offerToken_chan] <;> split <;> simp
      · simp only [takeNoToken, mapChan_chan]; split <;> rfl
  · rfl
@[simp] theorem takeBlock_chan_stress (c d : Chan) (w : BitVec 32) (s : State) :
    ((s.takeBlock c w).chan d).stress = (s.chan d).stress := by
  unfold takeBlock
  split
  · split
    · simp only [noteUncorrectable, takeNoToken, mapChan_chan]; split <;> simp
    all_goals
      split
      · unfold takeValidToken; dsimp only; split <;> simp only [mapChan_chan, offerToken_chan] <;> split <;> simp
      · simp only [takeNoToken, mapChan_chan]; split <;> rfl
  · rfl
@[simp] theorem takeBlock_chan_scan (c d : Chan) (w : BitVec 32) (s : State) :
    ((s.takeBlock c w).chan d).scan = (s.chan d).scan := by
  unfold takeBlock
  split
  · split
    · simp only [noteUncorrectable, takeNoToken, mapChan_chan]; split <;> simp
    all_goals
      split
      · unfold takeValidToken; dsimp only; split <;> simp only [mapChan_chan, offerToken_chan] <;> split <;> simp
      · simp only [takeNoToken, mapChan_chan]; split <;> rfl
  · rfl
@[simp] theorem takeNoToken_chan_static (c d : Chan) (s : State) :
    ((s.takeNoToken c).chan d).static = (s.chan d).static := by
  simp only [takeNoToken, mapChan_chan]; split <;> rfl
@[simp] theorem takeNoToken_chan_tx (c d : Chan) (s : State) :
    ((s.takeNoToken c).chan d).tx = (s.chan d).tx := by
  simp only [takeNoToken, mapChan_chan]; split <;> rfl
@[simp] theorem takeNoToken_chan_rx (c d : Chan) (s : State) :
    ((s.takeNoToken c).chan d).rx = (s.chan d).rx := by
  simp only [takeNoToken, mapChan_chan]; split <;> rfl
@[simp] theorem takeNoToken_chan_soak (c d : Chan) (s : State) :
    ((s.takeNoToken c).chan d).soak = (s.chan d).soak := by
  simp only [takeNoToken, mapChan_chan]; split <;> rfl
@[simp] theorem takeNoToken_chan_stress (c d : Chan) (s : State) :
    ((s.takeNoToken c).chan d).stress = (s.chan d).stress := by
  simp only [takeNoToken, mapChan_chan]; split <;> rfl
@[simp] theorem takeNoToken_chan_scan (c d : Chan) (s : State) :
    ((s.takeNoToken c).chan d).scan = (s.chan d).scan := by
  simp only [takeNoToken, mapChan_chan]; split <;> rfl
@[simp] theorem takeNoToken_chan_snapshot (c d : Chan) (s : State) :
    ((s.takeNoToken c).chan d).snapshot = (s.chan d).snapshot := by
  simp only [takeNoToken, mapChan_chan]; split <;> rfl
@[simp] theorem takeLaneBit_chan_static (c d : Chan) (ref : BitVec 31) (b : Bool) (s : State) :
    ((s.takeLaneBit c ref b).chan d).static = (s.chan d).static := by
  unfold takeLaneBit
  dsimp only
  split <;> (try split) <;> simp only [mapChan_chan] <;> split <;> simp
@[simp] theorem takeLaneBit_chan_tx (c d : Chan) (ref : BitVec 31) (b : Bool) (s : State) :
    ((s.takeLaneBit c ref b).chan d).tx = (s.chan d).tx := by
  unfold takeLaneBit
  dsimp only
  split <;> (try split) <;> simp only [mapChan_chan] <;> split <;> simp
@[simp] theorem takeLaneBit_chan_ident (c d : Chan) (ref : BitVec 31) (b : Bool) (s : State) :
    ((s.takeLaneBit c ref b).chan d).ident = (s.chan d).ident := by
  unfold takeLaneBit
  dsimp only
  split <;> (try split) <;> simp only [mapChan_chan] <;> split <;> simp
@[simp] theorem takeLaneBit_chan_scan (c d : Chan) (ref : BitVec 31) (b : Bool) (s : State) :
    ((s.takeLaneBit c ref b).chan d).scan = (s.chan d).scan := by
  unfold takeLaneBit
  dsimp only
  split <;> (try split) <;> simp only [mapChan_chan] <;> split <;> simp
@[simp] theorem takeLaneBit_chan_rx_state (c d : Chan) (ref : BitVec 31) (b : Bool) (s : State) :
    ((s.takeLaneBit c ref b).chan d).rx.state = (s.chan d).rx.state := by
  unfold takeLaneBit
  dsimp only
  split <;> (try split) <;> simp only [mapChan_chan] <;> split <;> simp [advanceReference]

/-- What the end of a granted point touches. -/
theorem takePoint_keeps (g : Grant) (b : Bool) (s : State) (d : Chan) :
    ((s.takePoint g b).chan d).static = (s.chan d).static ∧ ((s.takePoint g b).chan d).tx = (s.chan d).tx := by
  have fin : ∀ u v : State, ((finish v u.arbitrate).chan d).static = (u.chan d).static ∧
      ((finish v u.arbitrate).chan d).tx = (u.chan d).tx := by
    intro u v
    rw [finish_chan_static, finish_chan_tx, arbitrate_chan]; simp
  have lck : ∀ (u : State) (c : Chan), ((u.lock c).chan d).static = (u.chan d).static ∧ ((u.lock c).chan d).tx = (u.chan d).tx := by
    intro u c
    unfold lock
    split
    · dsimp only; split <;> simp only [mapEmn_chan, mapChan_chan] <;> split <;> simp
    all_goals simp
  unfold takePoint
  split
  · simp
  · unfold endSpot
    dsimp only
    refine ⟨(fin _ _).1.trans ?_, (fin _ _).2.trans ?_⟩ <;> split <;> simp [lck]
  · split
    · simp
    all_goals
      unfold endScan
      refine ⟨(fin _ _).1.trans ?_, (fin _ _).2.trans ?_⟩ <;> simp only [settleScan, mapEmn_chan, mapChan_chan] <;>
        split <;> rfl


@[simp] theorem takePoint_identity (g : Grant) (b : Bool) (s : State) : (s.takePoint g b).identity = s.identity := by
  unfold takePoint endSpot endScan
  split
  · simp
  · dsimp only; split <;> simp
  · split <;> simp
@[simp] theorem takePoint_spu (g : Grant) (b : Bool) (s : State) : (s.takePoint g b).spu = s.spu := by
  unfold takePoint endSpot endScan
  split
  · simp
  · dsimp only; split <;> simp
  · split <;> simp
@[simp] theorem takePoint_cfe (g : Grant) (b : Bool) (s : State) : (s.takePoint g b).cfe = s.cfe := by
  unfold takePoint endSpot endScan
  split
  · simp
  · dsimp only; split <;> simp
  · split <;> simp
@[simp] theorem takePoint_pending (g : Grant) (b : Bool) (s : State) : (s.takePoint g b).pending = s.pending := by
  unfold takePoint endSpot endScan
  split
  · simp
  · dsimp only; split <;> simp
  · split <;> simp
@[simp] theorem takePoint_station (g : Grant) (b : Bool) (s : State) : (s.takePoint g b).swc.station = s.swc.station := by
  unfold takePoint endSpot endScan
  split
  · simp
  · dsimp only; split <;> simp
  · split <;> simp
@[simp] theorem takePoint_params (g : Grant) (b : Bool) (s : State) : (s.takePoint g b).swc.params = s.swc.params := by
  unfold takePoint endSpot endScan
  split
  · simp
  · dsimp only; split <;> simp
  · split <;> simp
@[simp] theorem takePoint_haltReason (g : Grant) (b : Bool) (s : State) : (s.takePoint g b).swc.haltReason = s.swc.haltReason := by
  unfold takePoint endSpot endScan
  split
  · simp
  · dsimp only; split <;> simp
  · split <;> simp
@[simp] theorem takePoint_flags (g : Grant) (b : Bool) (s : State) : (s.takePoint g b).swc.flags = s.swc.flags := by
  unfold takePoint endSpot endScan
  split
  · simp
  · dsimp only; split <;> simp
  · split <;> simp
@[simp] theorem takePoint_foreignSweep (g : Grant) (b : Bool) (s : State) : (s.takePoint g b).swc.foreignSweep = s.swc.foreignSweep := by
  unfold takePoint endSpot endScan
  split
  · simp
  · dsimp only; split <;> simp
  · split <;> simp
@[simp] theorem takePoint_limitExpired (g : Grant) (b : Bool) (s : State) : (s.takePoint g b).swc.limitExpired = s.swc.limitExpired := by
  unfold takePoint endSpot endScan
  split
  · simp
  · dsimp only; split <;> simp
  · split <;> simp
@[simp] theorem takePoint_settleDelay (g : Grant) (b : Bool) (s : State) : (s.takePoint g b).swc.settleDelay = s.swc.settleDelay := by
  unfold takePoint endSpot endScan
  split
  · simp
  · dsimp only; split <;> simp
  · split <;> simp
@[simp] theorem takePoint_lampOk (g : Grant) (b : Bool) (s : State) : (s.takePoint g b).swc.lampOk = s.swc.lampOk := by
  unfold takePoint endSpot endScan
  split
  · simp
  · dsimp only; split <;> simp
  · split <;> simp
@[simp] theorem takePoint_lampFlt (g : Grant) (b : Bool) (s : State) : (s.takePoint g b).swc.lampFlt = s.swc.lampFlt := by
  unfold takePoint endSpot endScan
  split
  · simp
  · dsimp only; split <;> simp
  · split <;> simp
@[simp] theorem takePoint_stopDrive (g : Grant) (b : Bool) (s : State) : (s.takePoint g b).lif.stopDrive = s.lif.stopDrive := by
  unfold takePoint endSpot endScan
  split
  · simp
  · dsimp only; split <;> simp
  · split <;> simp
@[simp] theorem takePoint_inUse (g : Grant) (b : Bool) (s : State) (d : Chan) : (s.takePoint g b).inUse d = s.inUse d := by
  unfold takePoint endSpot endScan
  split
  · simp
  · dsimp only; split <;> simp
  · split <;> simp

end State

end Sys2Proof.Machine
end

