-- ==== Sys2Proof/Laws/Outcomes.lean ====
section
/-! SUPPORT. The shared operations meet the outcomes written out in Safety.lean: release, DONE, pulls, halts, slot conflicts. -/
namespace Sys2Proof.Machine

theorem endFrame_outcome (s : State) : s.mapCfe Cfe.endFrame = s.afterFrame := by
  by_cases h : s.cfe.onLine = none <;> simp [State.mapCfe, Cfe.endFrame, State.afterFrame, h, Option.isSome_iff_ne_none]

theorem pullStop_outcome (s : State) : s.mapLif Lif.pullStop = s.stopPulled := rfl

theorem release_outcome (s : State) : s.release = s.stageReleased := by
  simp [State.release, State.mapSwc, State.mapLif, Lif.releaseStep, State.stageReleased, msToUs, Nat.mul_comm]

theorem tryRelease_outcome (s : State) : s.tryRelease =
    if s.lif.phase = .holding ∧ s.swc.released = false ∧ s.releaseReady = true then s.stageReleased else s := by
  unfold State.tryRelease; rw [release_outcome]

theorem lampPatterns_done {s : State} (h : s.swc.station = .done) : s.lampPatterns = s.slotVerdict.lamps := by
  unfold State.lampPatterns; rw [h]; dsimp only
  cases s.slotVerdict <;> rfl

theorem enterDone_outcome (s : State) : s.enterDone = s.sweepEnded := by
  unfold State.enterDone State.refreshLamps
  rw [lampPatterns_done rfl]; rfl

theorem haltRecord_outcome (r : Channel) : r.HaltedFrom r.haltRecord := by
  constructor
  case static => rfl
  case tx => rfl
  case snapshot => rfl
  case rx_dead => intro h; simp [Channel.haltRecord, Rx.stop, h]
  case rx_other => intro h; simp [Channel.haltRecord, Rx.stop, h]
  case ident_settled => intro h; simp [Channel.haltRecord, Ident.halt, h]
  case ident_open => intro h; cases hs : r.ident.state <;> simp_all [Channel.haltRecord, Ident.halt, Ident.settle]
  case soak_settled => intro h; simp [Channel.haltRecord, StageCount.halt, h]
  case soak_idle => intro h; simp [Channel.haltRecord, StageCount.halt, h, StageCount.settle]
  case soak_open => rintro (h | h) <;> simp [Channel.haltRecord, StageCount.halt, h, StageCount.settle]
  case stress_settled => intro h; simp [Channel.haltRecord, StageCount.halt, h]
  case stress_idle => intro h; simp [Channel.haltRecord, StageCount.halt, h, StageCount.settle]
  case stress_open => rintro (h | h) <;> simp [Channel.haltRecord, StageCount.halt, h, StageCount.settle]
  case scan_settled => intro h; simp [Channel.haltRecord, Scan.halt, h]
  case scan_idle => intro h; simp [Channel.haltRecord, Scan.halt, h, Scan.settle]
  case scan_open => rintro (h | h | h) <;> simp [Channel.haltRecord, Scan.halt, h, Scan.settle]

/-- Entries that are not there yet join in their order. -/
theorem foldl_enqueue (es q : List Entry) (h : (q ++ es).Nodup) : es.foldl enqueue q = q ++ es := by
  induction es generalizing q with
  | nil => simp
  | cons e es ih =>
    have hne : e ∉ q := fun hm => by
      rw [List.nodup_append] at h
      exact h.2.2 e hm e (by simp) rfl
    rw [List.foldl_cons, enqueue, if_neg hne, ih _ (by simpa using h)]
    simp

theorem State.inUseChans_nodup (s : State) : s.inUseChans.Nodup := List.Nodup.filter _ (List.nodup_finRange 32)

theorem reports_outcome (s : State) : s.reportEntries = s.reports := rfl

theorem reports_nodup (s : State) : s.reports.Nodup := by
  rw [← reports_outcome, State.reportEntries, List.nodup_append]
  refine ⟨s.inUseChans_nodup.map (fun _ _ h => by injection h), by simp, ?_⟩
  intro a ha b hb
  rw [List.mem_map] at ha
  obtain ⟨c, _, rfl⟩ := ha
  rw [List.mem_singleton] at hb
  subst hb; intro h; cases h

theorem queueReports_outcome {s : State} (h : s.cfe.queue = []) :
    s.queueReports = { s with cfe := { s.cfe with queue := s.reports } } := by
  unfold State.queueReports State.mapCfe
  dsimp only
  rw [h, foldl_enqueue _ _ (by rw [List.nil_append]; exact reports_nodup s)]; rfl

theorem haltIn_outcome (why : HaltReason) (st : Stage) (s : State) : s.HaltedFrom why st (s.haltIn why st) := by
  constructor
  case identity => simp
  case swc => simp
  case lif => simp [Lif.leaveBarrier]
  case spu => simp
  case used => intro c h; rw [State.haltIn_chan, if_pos h]; exact haltRecord_outcome _
  case unused => intro c h; rw [State.haltIn_chan, if_neg (by simp [h])]
  case emn => simp [Emn.initial]
  case peers => simp
  case pending => simp
  case queue_free =>
    intro hl hq
    unfold State.haltIn State.haltQueue
    simp only [State.mapLif, State.mapInUse, hl]
    rw [queueReports_outcome]
    · simp only [State.mapCfe, Cfe.removeEntry, hl]; rfl
    · rcases hq with hq | hq <;> simp [State.mapCfe, Cfe.removeEntry, hq]
  case queue_line =>
    intro lf hl he
    unfold State.haltIn State.haltQueue
    simp only [State.mapLif, State.mapInUse, hl, he, if_true, State.mapCfe]

theorem halt_outcome {s : State} {st : Stage} (h : s.swc.station = .inStage st) (h' : st ≠ .report) (why : HaltReason) :
    s.HaltedFrom why st (s.halt why) := by
  rw [State.halt_of_stage h h']; exact haltIn_outcome why st s

theorem takeSlotConflict_outcome (s : State) : s.ConflictTaken s.takeSlotConflict := by
  unfold State.ConflictTaken State.takeSlotConflict
  cases hs : s.swc.station with
  | reset => rfl
  | listen => rfl
  | barred => rfl
  | done =>
    show State.refreshLamps (s.setFlags fun f => { f with slotConflict := true }) = _
    unfold State.refreshLamps
    rw [lampPatterns_done (by simpa [State.setFlags, State.mapSwc] using hs)]; rfl
  | halted st => rfl
  | inStage st =>
    cases st
    case report => rfl
    all_goals
      refine ⟨fun h => ?_, fun h => ?_⟩
      · show State.haltIfStopAll _ _ = _
        rw [State.haltIfStopAll, if_neg (by simpa [State.stopAll, State.mapLif, State.setFlags, State.mapSwc] using h)]; rfl
      · show State.HaltedFrom _ _ _ (State.haltIfStopAll _ _)
        rw [State.haltIfStopAll, if_pos (by simpa [State.stopAll, State.mapLif, State.setFlags, State.mapSwc] using h)]
        exact halt_outcome (s := (s.setFlags fun f => { f with slotConflict := true }).mapLif Lif.pullStop) hs (by simp) _

end Sys2Proof.Machine
end

