-- ==== Sys2Proof/Laws/Payloads.lean ====
section
/-! SUPPORT. The parts of a report payload (R177): a flags byte bit by bit, six bytes of a number, the peer records in their
places; and when a received frame is taken (R167). -/
namespace Sys2Proof.Machine

/-- A flags byte of six flags. -/
theorem flagBits_six (a b c d e f : Bool) (x : Byte)
    (h : x = byte (flagBit 0 a + flagBit 1 b + flagBit 2 c + flagBit 3 d + flagBit 4 e + flagBit 5 f)) :
    x.getLsbD 0 = a ∧ x.getLsbD 1 = b ∧ x.getLsbD 2 = c ∧ x.getLsbD 3 = d ∧ x.getLsbD 4 = e ∧ x.getLsbD 5 = f ∧
      x.getLsbD 6 = false ∧ x.getLsbD 7 = false := by
  subst h; revert a b c d e f; decide

/-- A flags byte of four flags. -/
theorem flagBits_four (a b c d : Bool) (x : Byte) (h : x = byte (flagBit 0 a + flagBit 1 b + flagBit 2 c + flagBit 3 d)) :
    x.getLsbD 0 = a ∧ x.getLsbD 1 = b ∧ x.getLsbD 2 = c ∧ x.getLsbD 3 = d ∧ ∀ i, 4 ≤ i → x.getLsbD i = false := by
  obtain ⟨h0, h1, h2, h3, h4, h5, h6, h7⟩ := flagBits_six a b c d false false x (by rw [h]; simp [flagBit])
  refine ⟨h0, h1, h2, h3, fun i hi => ?_⟩
  by_cases h8 : 8 ≤ i
  · exact BitVec.getLsbD_of_ge _ _ h8
  · have : i = 4 ∨ i = 5 ∨ i = 6 ∨ i = 7 := by omega
    rcases this with rfl | rfl | rfl | rfl <;> assumption

/-- The six bytes of a number, most significant first. -/
theorem bytesBE_six (n : Nat) : bytesBE 6 n =
    [byte (n / 256 ^ 5), byte (n / 256 ^ 4), byte (n / 256 ^ 3), byte (n / 256 ^ 2), byte (n / 256 ^ 1), byte (n / 256 ^ 0)] := rfl

/-- Two bytes for each peer. -/
theorem peerBytes_length (l : List PeerEntry) : (l.flatMap (·.payload)).length = 2 * l.length := by
  induction l with
  | nil => rfl
  | cons a l ih => rw [List.flatMap_cons, List.length_append, ih, List.length_cons]; simp [PeerEntry.payload]; omega

/-- The i-th peer's two bytes stand at 2i and 2i + 1. -/
theorem peerBytes_at (l : List PeerEntry) (i : Nat) (e : PeerEntry) (h : l[i]? = some e) :
    (l.flatMap (·.payload))[2 * i]? = e.payload[0]? ∧ (l.flatMap (·.payload))[2 * i + 1]? = e.payload[1]? := by
  induction l generalizing i with
  | nil => simp at h
  | cons a l ih =>
    cases i with
    | zero => simp at h; subst h; simp [PeerEntry.payload]
    | succ i =>
      obtain ⟨h1, h2⟩ := ih i (by simpa using h)
      rw [show 2 * (i + 1) = 2 * i + 1 + 1 by omega]
      exact ⟨by simpa [PeerEntry.payload] using h1, by simpa [PeerEntry.payload] using h2⟩

/-- R165: the verdict counts of the report. -/
theorem verdictCount_judged (s : State) (v : ChannelVerdict) : s.verdictCount v = s.channelsJudged v := by
  unfold State.verdictCount State.channelsJudged State.inUseChans State.channelVerdict
  rw [List.filter_filter]
  congr 2
  funext c
  exact Bool.and_comm _ _

/-- R167: a receiver that is not inside a frame takes none. -/
theorem receive_outside {ok : Bool} {take : State → State} {s : State}
    (h : ¬(s.swc.station ≠ .reset ∧ s.cfe.receiver = .frame)) : receive ok take s = .next s := if_neg h

/-- R167, R168: a frame received in full, dropped or handed on. -/
theorem receive_inside {take : State → State} {s : State} (h : s.swc.station ≠ .reset) (hr : s.cfe.receiver = .frame) :
    receive true take s = .next (take (s.mapCfe Cfe.endFrame)) ∧ receive false take s = .next (s.mapCfe Cfe.endFrame) := by
  constructor <;> unfold receive <;> rw [if_pos ⟨h, hr⟩] <;> rfl

end Sys2Proof.Machine
end

