-- ==== Sys2Proof/Laws/Points.lean ====
section
/-! SUPPORT. When an eye-monitor point ends (R138): before 2^P bits nothing happens, at 2^P the procedure takes the result, and the
point or grant that follows starts at bit 0. -/
namespace Sys2Proof.Machine.State

theorem endPoint_early {s : State} (h : ∀ g, s.emn.grant = some g → g.bits ≠ 2 ^ s.swc.params.p) : s.endPoint = s := by
  unfold endPoint
  split
  · rfl
  · rename_i g hg; rw [if_neg (h g hg)]

theorem endPoint_due {s : State} {g : Grant} (hg : s.emn.grant = some g) (h : g.bits = 2 ^ s.swc.params.p) :
    s.endPoint = s.takePoint g !g.disagreed := by
  unfold endPoint; rw [hg]; exact if_pos h

/-- What holds before a point's end and after every point taken holds after the end. -/
theorem endPoint_of {s : State} (P : State → Prop) (h : P s) (ht : ∀ g, s.emn.grant = some g → P (s.takePoint g !g.disagreed)) :
    P s.endPoint := by
  unfold endPoint
  split
  · exact h
  · rename_i g hg
    split
    · exact ht g hg
    · exact h

theorem endPointOf_early {s : State} {c : Chan}
    (h : ∀ g, s.emn.grant = some g → g.channel = c → g.bits ≠ 2 ^ s.swc.params.p) : s.endPointOf c = s := by
  unfold endPointOf
  split
  · rfl
  · rename_i g hg
    split
    · rename_i hc
      exact endPoint_early fun g' hg' => by rw [hg] at hg'; cases hg'; exact h g hg hc
    · rfl

theorem endPointOf_granted {s : State} {g : Grant} (hg : s.emn.grant = some g) : s.endPointOf g.channel = s.endPoint := by
  unfold endPointOf; rw [hg]; exact if_pos rfl

/-- What holds before a point's end and after every point taken holds after endPointOf. -/
theorem endPointOf_of {s : State} (c : Chan) (P : State → Prop) (h : P s)
    (ht : ∀ g, s.emn.grant = some g → P (s.takePoint g !g.disagreed)) : P (s.endPointOf c) := by
  unfold endPointOf
  split
  · exact h
  · split
    · exact endPoint_of P h ht
    · exact h

/-- A grant made where none stood starts at bit 0. -/
theorem arbitrate_bits {s : State} (h : s.emn.grant = none) {g : Grant} (hg : s.arbitrate.emn.grant = some g) : g.bits = 0 := by
  unfold arbitrate at hg
  rw [h] at hg
  dsimp only at hg
  split at hg
  · simp only [mapChan_emn, mapEmn_emn, Option.some.injEq] at hg; subst hg; rfl
  · simp only [mapChan_emn, mapEmn_emn, Option.some.injEq] at hg; subst hg; rfl
  · rw [h] at hg; cases hg

/-- Whatever point or grant stands after a point was taken starts at bit 0. -/
theorem takePoint_bits {g : Grant} {b : Bool} {s : State} {g' : Grant} (h : (s.takePoint g b).emn.grant = some g') :
    g'.bits = 0 := by
  unfold takePoint at h
  split at h
  · simp only [startPoint, mapEmn_emn, Option.some.injEq] at h; subst h; rfl
  · simp only [endSpot, finish_emn] at h
    refine arbitrate_bits ?_ h
    split
    · unfold lock; split
      · dsimp only; split <;> rfl
      all_goals rfl
    · rw [countFailure_emn]; rfl
  · split at h
    · simp only [startPoint, mapEmn_emn, Option.some.injEq] at h; subst h; rfl
    all_goals
      simp only [endScan, finish_emn] at h
      exact arbitrate_bits rfl h

/-- Once a point has ended, the next compared bit finds none that is over. -/
theorem endPointOf_taken (g : Grant) (b : Bool) (s : State) (c : Chan) : (s.takePoint g b).endPointOf c = s.takePoint g b := by
  refine endPointOf_early fun g' h _ => ?_
  rw [takePoint_bits h]
  exact Nat.ne_of_lt (Nat.two_pow_pos _)

end Sys2Proof.Machine.State
end

