-- ==== Sys2Proof/Laws/Queues.lean ====
section
/-! SUPPORT. What a RECALL picks and addresses, what a Peer List update leaves, and the frame of a change to one record. -/
namespace Sys2Proof.Machine

/-! ### RECALL -/

/-- R163 with no limit: every wanted channel not queued yet. -/
theorem recallPick_none (q : List Entry) (cs : List Chan) :
    recallPick q none cs = (cs.filter fun c => !(q.contains (.lanerep c))).map .lanerep := by
  induction cs with
  | nil => rfl
  | cons c cs ih =>
    unfold recallPick; by_cases h : Entry.lanerep c ∈ q <;> simp [h, ih]
/-- R163 with a limit: the first of them. -/
theorem recallPick_some (q : List Entry) (cs : List Chan) (n : Nat) :
    recallPick q (some n) cs = ((cs.filter fun c => !(q.contains (.lanerep c))).take n).map .lanerep := by
  induction cs generalizing n with
  | nil => simp [recallPick]
  | cons c cs ih =>
    unfold recallPick; by_cases h : Entry.lanerep c ∈ q
    · simp [h, ih]
    · cases n <;> simp [h, ih]

/-- R162, bit by bit. -/
theorem recallAddresses_iff (f : RecallFields) (n : Nat) : recallAddresses f n = true ↔
    ∀ i, i < 4 → f.mask.getLsbD i = true → (n - 1).testBit i = f.target.getLsbD i := by
  have bit : ∀ i, i < 8 → (BitVec.ofNat 8 (n - 1)).getLsbD i = (n - 1).testBit i := fun i h => by
    simp only [BitVec.getLsbD_ofNat, h, decide_true, Bool.true_and]
  have low : ∀ i, i < 8 → (0x0F#8).getLsbD i = decide (i < 4) := by decide
  unfold recallAddresses
  rw [beq_iff_eq]
  constructor
  · intro h i hi hm
    have e := congrArg (fun w => BitVec.getLsbD w i) h
    simp only [BitVec.getLsbD_and, BitVec.getLsbD_xor, hm, bit i (by omega), low i (by omega), hi, BitVec.getLsbD_zero] at e
    revert e
    cases (n - 1).testBit i <;> cases f.target.getLsbD i <;> decide
  · intro h
    apply BitVec.eq_of_getLsbD_eq
    intro i hi
    simp only [BitVec.getLsbD_and, BitVec.getLsbD_xor, bit i hi, low i hi, BitVec.getLsbD_zero]
    by_cases h4 : i < 4
    · have hh := h i h4
      revert hh
      cases f.mask.getLsbD i <;> cases (n - 1).testBit i <;> cases f.target.getLsbD i <;> simp [h4]
    · simp [h4]

/-! ### Peer List -/

/-- What a Peer List update can do to an ascending list: it stays ascending, every other slot's entry stands, the named slot's
entry is made or changed, and no other slot appears (R52, R55, R59). -/
theorem upsertPeer_outcome (fresh : PeerEntry) (g : PeerEntry → PeerEntry) (hg : ∀ e, (g e).slot = e.slot) (l : List PeerEntry)
   (hl : l.Pairwise fun a b => a.slot < b.slot) :
   (upsertPeer fresh g l).Pairwise (fun a b => a.slot < b.slot) ∧ 
   (∀ q, q ≠ fresh.slot → (upsertPeer fresh g l).find? (fun e => e.slot == q) = l.find? (fun e => e.slot == q)) ∧
   (l.find? (fun e => e.slot == fresh.slot) = none →
      (upsertPeer fresh g l).find? (fun e => e.slot == fresh.slot) = some (g fresh)) ∧
   (∀ x, l.find? (fun e => e.slot == fresh.slot) = some x →
      (upsertPeer fresh g l).find? (fun e => e.slot == fresh.slot) = some (g x)) ∧
   (∀ x, x ∈ upsertPeer fresh g l → x = g fresh ∨ ∃ y ∈ l, x.slot = y.slot) := by
  induction l with
  | nil => simp [upsertPeer, hg, Ne.symm]; intro q h; exact fun h' => h h'.symm
  | cons e es ih =>
    have ih := ih (List.Pairwise.of_cons hl)
    have hl' := hl
    rw [List.pairwise_cons] at hl
    unfold upsertPeer
    split
    · rename_i hlt
      refine ⟨?_, ?_, ?_, ?_, ?_⟩
      · rw [List.pairwise_cons]; refine ⟨?_, hl'⟩
        intro x hx; rw [hg]
        rcases List.mem_cons.1 hx with rfl | hx
        · exact hlt
        · exact lt_trans hlt (hl.1 x hx)
      · intro q hq; rw [List.find?_cons_of_neg]; simp [hg]; exact fun h => hq h.symm
      · intro _; rw [List.find?_cons_of_pos]; simp [hg]
      · intro x hx
        have := List.find?_some hx
        have hm := List.mem_of_find?_eq_some hx
        simp at this
        rcases List.mem_cons.1 hm with rfl | hm
        · omega
        · have := hl.1 x hm; omega
      · intro x hx
        rcases List.mem_cons.1 hx with rfl | hx
        · left; rfl
        · right; exact ⟨x, hx, rfl⟩
    · split
      · rename_i h1 h2
        refine ⟨?_, ?_, ?_, ?_, ?_⟩
        · rw [List.pairwise_cons]; exact ⟨fun x hx => by rw [hg]; exact hl.1 x hx, hl.2⟩
        · intro q hq; rw [List.find?_cons_of_neg (by simp [hg]; omega), List.find?_cons_of_neg (by simp; omega)]
        · intro h; rw [List.find?_cons_of_pos (by simp [h2])] at h; cases h
        · intro x h; rw [List.find?_cons_of_pos (by simp [h2])] at h; cases h; rw [List.find?_cons_of_pos (by simp [hg, h2])]
        · intro x hx
          rcases List.mem_cons.1 hx with rfl | hx
          · right; exact ⟨e, by simp, hg e⟩
          · right; exact ⟨x, by simp [hx], rfl⟩
      · rename_i h1 h2
        refine ⟨?_, ?_, ?_, ?_, ?_⟩
        · rw [List.pairwise_cons]; refine ⟨?_, ih.1⟩
          intro x hx
          rcases ih.2.2.2.2 x hx with rfl | ⟨y, hy, hxy⟩
          · rw [hg]; omega
          · rw [hxy]; exact hl.1 y hy
        · intro q hq; simp only [List.find?_cons]; split
          · rfl
          · exact ih.2.1 q hq
        · intro h; rw [List.find?_cons_of_neg (by simp; omega)] at h ⊢; exact ih.2.2.1 h
        · intro x h; rw [List.find?_cons_of_neg (by simp; omega)] at h ⊢; exact ih.2.2.2.1 x h
        · intro x hx
          rcases List.mem_cons.1 hx with rfl | hx
          · right; exact ⟨x, by simp, rfl⟩
          · rcases ih.2.2.2.2 x hx with rfl | ⟨y, hy, hxy⟩
            · left; rfl
            · right; exact ⟨y, by simp [hy], hxy⟩

/-! ### One record, or every in-use record -/

namespace State

/-- The frame of a change of every in-use record. -/
theorem mapInUse_only (f : Chan → Channel → Channel) (s : State) : s.OnlyUsed (s.mapInUse f) := by
  refine ⟨rfl, fun c h => ?_⟩
  rw [mapInUse_chan]; simp [h]

/-- The frame of a change of one record. -/
theorem mapChan_only (c : Chan) (f : Channel → Channel) (s : State) : s.OnlyChan c (f (s.chan c)) (s.mapChan c f) := by
  refine ⟨rfl, by simp, fun d h => ?_⟩
  rw [mapChan_chan]; simp [h]

/-- The frame of a change of one record and the eye monitor. -/
theorem mapChan_mapEmn_only (c : Chan) (f : Channel → Channel) (g : Emn → Emn) (s : State) :
    s.ChanAndMonitor c (f (s.chan c)) (g s.emn) ((s.mapChan c f).mapEmn g) := by
  refine ⟨rfl, by simp, fun d h => ?_⟩
  rw [mapEmn_chan, mapChan_chan]; simp [h]

/-- Two changes of one record are one. -/
theorem mapChan_mapChan (c : Chan) (f g : Channel → Channel) (s : State) :
    (s.mapChan c f).mapChan c g = s.mapChan c (fun r => g (f r)) := by
  simp only [mapChan, chan]
  congr 1
  simp [Vector.set]

end State

/-! ### Records of a receiver -/

/-- R95, R96, as the statements write it. -/
theorem Rx.countFailure_outcome (p : Params) (x : Rx) : x.countFailure p = x.failedOnce p := by
  simp only [Rx.countFailure, Rx.failedOnce, msToUs, Nat.mul_comm]
  by_cases h : x.retrainCount < p.budget
  · rw [if_pos (by omega), if_pos h]
  · rw [if_neg (by omega), if_neg h]

/-- R107, as the statements write it. -/
theorem Ident.takeNoToken_outcome (i : Ident) : i.takeNoToken = i.withoutToken := by
  unfold Ident.takeNoToken Ident.withoutToken
  cases hst : i.state <;> simp [undecodedTarget]
  by_cases h1 : i.undecodedRun + 1 < 64
  · rw [if_pos h1, if_neg (by omega)]; simp; omega
  · rw [if_neg h1]
    have : min (i.undecodedRun + 1) 64 = 64 := by omega
    cases hh : i.heard <;> simp [Ident.settle, this]
    all_goals omega

/-- R129: the bit number a fault is written with. -/
theorem Channel.countingN_outcome (st : Stage) (r : Channel) : r.countingN st = r.bitNumber st := by
  cases st <;> simp [Channel.countingN, Channel.count?, Channel.bitNumber]

/-- R129: a fault event leaves a written snapshot and writes an unwritten one. -/
theorem Channel.noteFault_outcome (st : Stage) (k : FaultKind) (n : Nat) (r : Channel) :
    r.noteFault st k n = { r with snapshot := r.snapshot <|> some { stage := st, kind := k, n := n } } := by
  unfold Channel.noteFault
  cases h : r.snapshot <;> simp
  cases r
  simp_all

end Sys2Proof.Machine
end

