-- ==== Sys2Proof/Laws/Receivers.lean ====
section
/-! SUPPORT. What a failed attempt, a lock loss, a DEAD channel and a lock leave of a channel's record, as the statements write
it. -/
namespace Sys2Proof.Machine.State

/-- The record of a channel whose items "dead" has settled (R96). -/
theorem settleDead_outcome {s : State} {st : Stage} (hs : s.swc.station = .inStage st) (c : Chan) :
    ∃ r', s.DiedIn st c (s.chan c) r' ∧ s.OnlyChan c r' (s.settleDead c) := by
  have e : s.settleDead c = s.mapChan c fun r => { (r.mapCount st StageCount.die) with
      ident := r.ident.settleOpen (s.captureClass c) (s.silentClass c)
      scan := r.scan.die } := by unfold settleDead; rw [hs]
  rw [e]
  refine ⟨_, ?_, mapChan_only c _ s⟩
  generalize s.chan c = r
  constructor
  case static => cases st <;> rfl
  case tx => cases st <;> rfl
  case rx => cases st <;> rfl
  case snapshot => cases st <;> rfl
  case ident_open => intro h; cases hh : r.ident.heard <;> simp [Ident.settleOpen, h, Ident.settle, hh]
  case ident_other => intro h; simp [Ident.settleOpen, h]
  case soak_waiting => rintro rfl h; simp [Channel.mapCount, StageCount.die, h, StageCount.settle]
  case soak_other => intro h; cases st <;> simp_all [Channel.mapCount, StageCount.die]
  case stress_waiting => rintro rfl h; simp [Channel.mapCount, StageCount.die, h, StageCount.settle]
  case stress_other => intro h; cases st <;> simp_all [Channel.mapCount, StageCount.die]
  case scan_open => rintro (h | h | h) <;> simp [Scan.die, h, Scan.settle]
  case scan_other => rintro (h | h) <;> simp [Scan.die, h]

/-- A raised retrain count, in stage st (R95, R96). -/
theorem countFailure_outcome {s : State} {st : Stage} (hs : s.swc.station = .inStage st) (c : Chan) :
    ∃ r', s.FailedIn st c (s.chan c) r' ∧ s.OnlyChan c r' (s.countFailure c) := by
  unfold countFailure
  dsimp only
  rw [mapChan_chan_self]
  by_cases h : (s.chan c).rx.retrainCount < s.swc.params.budget
  · have e : ¬ ({ s.chan c with rx := (s.chan c).rx.countFailure s.swc.params } : Channel).rx.state = .dead := by
      rw [Rx.countFailure_outcome]; simp [Rx.failedOnce, h]
    rw [if_neg e]
    refine ⟨_, ⟨fun _ => ?_, fun h' => absurd h' (by omega)⟩, mapChan_only c _ s⟩
    rw [Rx.countFailure_outcome]
  · have e : ({ s.chan c with rx := (s.chan c).rx.countFailure s.swc.params } : Channel).rx.state = .dead := by
      rw [Rx.countFailure_outcome]; simp [Rx.failedOnce, h]
    rw [if_pos e]
    obtain ⟨r', a, b⟩ := settleDead_outcome
      (s := s.mapChan c fun r => { r with rx := r.rx.countFailure s.swc.params }) (st := st) hs c
    rw [mapChan_chan_self, Rx.countFailure_outcome] at a
    refine ⟨r', ⟨fun h' => absurd h' h, fun _ => ?_⟩, b.1, b.2.1, fun d hd => ?_⟩
    · exact ⟨a.static, a.tx, a.rx, a.snapshot, a.ident_open, a.ident_other, a.soak_waiting, a.soak_other, a.stress_waiting,
        a.stress_other, a.scan_open, a.scan_other⟩
    · rw [b.2.2 d hd, mapChan_chan_other hd]

/-- A lock in stage st (R93): the record, and a scan that waited joins the back of the queue. -/
theorem lock_outcome {s : State} {st : Stage} (hs : s.swc.station = .inStage st) (c : Chan) :
    s.ChanAndMonitor c (lockRecord st (!s.swc.settleDelay.isRunning) (s.chan c))
      (if (s.chan c).scan.state = .awaitLock then { s.emn with scanQueue := s.emn.scanQueue ++ [c] } else s.emn) (s.lock c) := by
  rw [lock_of_stage hs]
  dsimp only
  refine ⟨?_, ?_, ?_⟩
  · split <;> simp [mapEmn, mapChan, Emn.setQueue]
  · split <;> simp
  · intro d hd; split <;> simp [mapChan_chan, hd]

end Sys2Proof.Machine.State
end

