-- ==== Sys2Proof/Tests/Slice0.lean ====
section
/-! SUPPORT. Own tests: the operand checks refuse what they should, the spec's worked numbers come out, and each statement with
hypotheses has a concrete state that meets them (test_hyp_<statement>). -/
namespace Sys2Proof.Tests
open Sys2Proof.Machine

/-! ### Helpers: small states -/

def strap (slot slots : Nat) (star : Bool) (width : Nat) : Straps :=
  { slot := BitVec.ofNat 4 (slot - 1), slots := BitVec.ofNat 4 (slots - 1), topo := star, width := BitVec.ofNat 2 width
    policy := false }

def ident (slot slots : Nat) (star : Bool) (width : Nat) : Identity := Identity.ofStraps (strap slot slots star width)

/-- Slot 1 of a mesh of two, one lane, STOP_ALL, in station state st, with both lines high. -/
def inState (st : StationState) : State :=
  { State.reset with identity := some (ident 1 2 false 0), swc := { Swc.initial with station := st } }

def withLif (f : Lif → Lif) (s : State) : State := { s with lif := f s.lif }
def withSwc (f : Swc → Swc) (s : State) : State := { s with swc := f s.swc }
def withCfe (f : Cfe → Cfe) (s : State) : State := { s with cfe := f s.cfe }
def withEmn (f : Emn → Emn) (s : State) : State := { s with emn := f s.emn }

/-- In station state st with the receiver inside a frame. -/
def hearing (st : StationState) : State := withCfe (fun f => { f with receiver := .frame }) (inState st)

theorem test_hearing (st : StationState) : (hearing st).cfe.receiver = .frame ∧ (hearing st).swc.station = st := ⟨rfl, rfl⟩

/-- Channel 0 with another record. -/
def withChan (f : Channel → Channel) (s : State) : State := { s with channels := s.channels.set 0 (f s.channels[0]) }

def rxIn (x : RxState) (r : Channel) : Channel := { r with rx := { r.rx with state := x } }

/-- Channel 0 LOCKED in stage st. -/
def lockedIn (st : Stage) : State := withChan (rxIn .locked) (inState (.inStage st))

def beginZero : BeginFields :=
  { tag := 0, tSoak := 0, tStress := 200, p := 0, swing := 255, wMin := 65, hMin := 63, budget := 0, retrainMs := 0, musterMs := 0
    identifyMs := 7, soakMs := 0, stressMs := 0, reportMs := 0, barrierMs := 65535 }

def presentOf (tag : Byte) : PresentFields := { tag := tag, slotsMinusOne := 1, topology := 0, width := 0, policy := 0 }

def recallAll : RecallFields := { target := 0, mask := 0, channels := 0xFFFFFFFF#32, count := 0, summary := 1 }

/-- An own frame on the line, at the head of the queue. -/
def sending (e : Entry) (drop : Bool) (s : State) : State :=
  withCfe (fun f => { f with receiver := .frame, queue := [e], onLine := some { entry := e, bytes := List.replicate 10 0, dropOnLoss := drop } }) s

def waitingIn (st : Stage) : State :=
  withSwc (fun w => { w with released := true })
    (withLif (fun l => { l with phase := .waiting, barrierRun := true, barrierLimit := .running 1000 }) (inState (.inStage st)))

def roundAt (r : Chan) (levels : MicroVolts) : ProbeRound :=
  { round := r, currentOn := true, reference := some (Vector.replicate 32 (some 500000))
    samples := List.replicate 4 (Vector.replicate 32 (some levels)) }

/-- Channel 0 has the grant, at bit n of point pt. -/
def grantedAt (n : Nat) (pr : Procedure) (pt : EyePoint) (s : State) : State :=
  withEmn (fun m => { m with grant := some { channel := 0, procedure := pr, point := pt, bits := n, disagreed := false } }) s

def granted (pr : Procedure) (pt : EyePoint) (s : State) : State := grantedAt 0 pr pt s

/-- Channel 0 follows its lane with a seeded checker in stage st. -/
def seededIn (x : RxState) (st : Stage) : State :=
  withChan (fun r => { r with rx := { r.rx with state := x, reference := some 1 } }) (inState (.inStage st))

/-- The token a peer in slot 2 sends on channel 0 to this station, in SOAK under tag 0. -/
def soakToken : Token := { slot := 2, channel := 0, stage := 4, tag := 0, slotsMinusOne := 1, topology := false }
def marker : BitVec 32 := 0x3C5A96E1#32

/-! ### WellFormed refuses ill-formed operands -/

theorem test_begin_src_17 : (Instr.beginFrame 17 beginZero).wellFormed = false := by decide
theorem test_begin_src_16 : (Instr.beginFrame 16 beginZero).wellFormed = true := by decide
theorem test_cease_src_17 : (Instr.ceaseFrame 17 0).wellFormed = false := by decide
theorem test_present_src_255 : (Instr.presentFrame 255 (presentOf 0)).wellFormed = false := by decide
theorem test_recall_src_17 : (Instr.recallFrame 17 recallAll).wellFormed = false := by decide
theorem test_lanerep_src_17 : (Instr.lanerepReceived 17 (List.replicate 41 0)).wellFormed = false := by decide
theorem test_lanerep_len_40 : (Instr.lanerepReceived 2 (List.replicate 40 0)).wellFormed = false := by decide
theorem test_lanerep_len_41 : (Instr.lanerepReceived 2 (List.replicate 41 0)).wellFormed = true := by decide
theorem test_slotrep_src_17 : (Instr.slotrepReceived 17 (List.replicate 11 0)).wellFormed = false := by decide
theorem test_slotrep_len_12 : (Instr.slotrepReceived 2 (List.replicate 12 0)).wellFormed = false := by decide
theorem test_slotrep_len_43 : (Instr.slotrepReceived 2 (List.replicate 43 0)).wellFormed = false := by decide
theorem test_slotrep_len_9 : (Instr.slotrepReceived 2 (List.replicate 9 0)).wellFormed = false := by decide
theorem test_loss_bit_460 : (Instr.contentionLoss 460).wellFormed = false := by decide

/-! ### The spec's worked numbers -/

/-- R169, R176 (the worked CEASE frame of chapter 11), and one wrong check byte. -/
theorem test_cease_frame : acceptFrame [0xAA, 0x00, 0x03, 0x01, 0x5C, 0xEA] = some (.ceaseFrame 0 0x5C) ∧
    acceptFrame [0xAA, 0x00, 0x03, 0x01, 0x5C, 0xEB] = none ∧ acceptFrame [0xAB, 0x00, 0x03, 0x01, 0x5C, 0xEA] = none := by
  decide +kernel

/-- R5 to R12 at mesh S = 6, W = 4, station 4, and the port that station 10 of S = 16 drops. -/
theorem test_wiring : (List.range 5).map (ident 4 6 false 2).portPeer = [1, 2, 3, 5, 6] ∧
    (List.range 5).map (ident 4 6 false 2).farPort = [2, 2, 2, 3, 3] ∧ (ident 4 6 false 2).keptPorts = 5 ∧
    (ident 10 16 false 2).truncatedPorts = 7 ∧
    (ident 10 16 false 2).expectedSource 0 = some { slot := 1, channel := 32 } ∧
    (List.range 2).map (ident 5 8 true 1).portPeer = [1, 2] ∧ (ident 1 8 true 0).portPeer 6 = 2 := by decide +kernel

/-- R19: the clamps, at and outside both ends. -/
theorem test_clamp : (Params.ofBegin beginZero).tSoak = 20 ∧ (Params.ofBegin beginZero).tStress = 40 ∧
    (Params.ofBegin beginZero).swing = 15 ∧ (Params.ofBegin beginZero).wMin = 64 ∧ (Params.ofBegin beginZero).budget = 1 ∧
    (Params.ofBegin beginZero).musterMs = 1 ∧ (Params.ofBegin beginZero).barrierMs = 65535 := by decide

/-- R68 and R70 at their thresholds. -/
theorem test_voltages : sampleClass 199999 = .shortLow ∧ sampleClass 200000 = .terminated ∧ sampleClass 1000000 = .terminated ∧
    sampleClass 1000001 = .openPair ∧ sampleClass 1600000 = .openPair ∧ sampleClass 1600001 = .shortHigh ∧
    (roundAt 0 550000).rose 1 = false ∧ (roundAt 0 550001).rose 1 = true := by decide +kernel

/-- R144, R145: one COMPLETE scan. -/
theorem test_figures : ScanReadings.figures { r := some 13, l := some 11, upA := some 9, downA := some 13, upB := some 12
                                              downB := some 10 } = { w := 24, h := 23, o := 1, c := 0 } := by decide

/-- R83, R87: one bit in error is corrected, two are not. -/
theorem test_token : decodeToken soakToken.encode = .clean soakToken ∧
    decodeToken (soakToken.encode ^^^ 0x00000400#32) = .corrected soakToken ∧
    decodeToken (soakToken.encode ^^^ 0x80000001#32) = .uncorrectable := by decide +kernel

/-- R82, R83, R175 (the worked token of chapter 11): station 4 of a mesh of six, channel 13, IDENTIFY, tag 51. -/
def workedToken : Token := { slot := 4, channel := 13, stage := 3, tag := 51, slotsMinusOne := 5, topology := false }

/-- Its 32 positions, 0 to 31, as the chapter writes them out. -/
def workedPositions : List Bool :=
  [true, false, true, false, true, false, true, false, true, false, false, true, true, false, true, false,
    false, true, true, false, false, true, true, false, false, true, true, false, true, false, true, false]

theorem test_worked_codeword : (List.range 32).map workedToken.encode.getLsbD = workedPositions ∧
    syndrome (workedToken.encode ^^^ 0x00200000#32) = 21 ∧
    decodeToken (workedToken.encode ^^^ 0x00200000#32) = .corrected workedToken := by decide +kernel

/-- R81, R175: the first 64 bits of a period are the marker, 0x3C5A96E1, most significant bit first, and then the positions. -/
theorem test_worked_period : (List.range 64).map (periodBit workedToken.encode 0) =
    [false, false, true, true, true, true, false, false, false, true, false, true, true, false, true, false,
      true, false, false, true, false, true, true, false, true, true, true, false, false, false, false, true] ++
      workedPositions := by decide +kernel

/-- R80: 31 ones, then zeros until a one of the seed and a zero stand 28 and 31 places before. -/
theorem test_pattern : (List.range 60).map patternBit = List.replicate 31 true ++ List.replicate 28 false ++ [true] := by
  decide +kernel

/-- R123 at the 0th and the 15th error of T = 20. -/
theorem test_thresholds : countThreshold 20 0 = 3145728 ∧ countThreshold 20 15 = 24379392 := by decide

/-- R162: the addressing examples. -/
theorem test_recall_address : recallAddresses { recallAll with target := 3, mask := 0x0C } 4 = true ∧
    recallAddresses { recallAll with target := 3, mask := 0x0C } 5 = false ∧
    recallAddresses { recallAll with target := 8, mask := 0x08 } 9 = true ∧
    recallAddresses { recallAll with target := 3, mask := 0xF0 } 9 = true := by decide

/-- No table word spells a command. -/
theorem test_no_table_word : decodeTableWord 8 0 = none ∧ (State.reset.withFetchWord 8 0).pending = [] := by decide

/-! ### Every statement's hypotheses are met -/

theorem test_hyp_StepRunsFrontCommand : State.reset.pending = [] := rfl

theorem test_hyp_IdentityHeldBetweenResets : Instr.busIdle ≠ .resetBegin ∧
    (State.reset.swc.station = .reset → ∀ st, Instr.busIdle ≠ .resetEnd st) ∧
    (inState .listen).swc.station ≠ .reset := by refine ⟨by decide, fun _ _ => by simp, by decide⟩

theorem test_hyp_ResetBeginClears : State.reset.swc.station = .reset ∧ isFrame (.ceaseFrame 0 0) = true := by decide

theorem test_hyp_ResetEndFormsIdentity : State.reset.ControlWf ∧ State.reset.swc.station = .reset ∧
    (strap 1 2 false 2).width.toNat ≤ 2 ∧ (strap 1 2 false 3).width.toNat = 3 := by
  refine ⟨⟨⟨?_, ?_, ?_, ?_, ?_, ?_, ?_, ?_, ?_, ?_, ?_, ?_, ?_, ?_⟩, ?_, ?_, ?_⟩, ?_, ?_, ?_⟩
  all_goals first | decide | (intro st h; cases h) | (intro _ _; rfl)

theorem test_hyp_BarredConditions : (ident 4 1 true 0).barred = true ∧ (ident 1 2 false 0).barred = false ∧
    State.reset.swc.station = .reset ∧ ({ inState .barred with identity := some (ident 4 1 true 0) } : State).swc.station = .barred := by
  decide

theorem test_hyp_PortsOfEveryRole : (ident 4 6 false 2).barred = false ∧ (ident 4 6 false 2).topology = .mesh ∧
    (ident 3 3 true 0).barred = false ∧ (ident 3 3 true 0).topology = .star ∧ 3 ≤ (ident 3 3 true 0).slot ∧
    (ident 2 3 true 0).barred = false ∧ (ident 2 3 true 0).topology = .star ∧ (ident 2 3 true 0).slot ≤ 2 ∧
    0 + 3 ≤ (ident 2 3 true 0).slots ∧ 0 + 1 < (ident 4 6 false 2).slot ∧ (ident 4 6 false 2).slot ≤ 4 + 1 := by decide

theorem test_hyp_ChannelsAndExpectedSources :
    (ident 4 6 false 2).portCount * (ident 4 6 false 2).lanes ≤ 32 ∧
    32 < (ident 10 16 false 2).portCount * (ident 10 16 false 2).lanes ∧
    (ident 4 6 false 2).inUse 20 = false ∧ (ident 4 6 false 2).inUse 19 = true ∧
    (ident 10 16 false 2).farTruncated 0 = true := by decide +kernel

theorem test_hyp_StationTransitions : ∃ t, exec .busIdle (inState .listen) = .next t := ⟨_, rfl⟩

theorem test_hyp_BeginOpensSweep : (16 : Byte).toNat ≤ 16 ∧ (hearing .listen).swc.station = .listen ∧
    (hearing .done).cfe.receiver = .frame ∧ (hearing .done).swc.station = .done ∧
    ¬((hearing .listen).lif.stopQualified = some .low ∧ (hearing .listen).lif.stopDrive = .released) ∧
    (withLif (fun l => { l with stopQualified := some .low }) (hearing .done)).lif.stopQualified = some .low ∧
    (hearing .done).stopAll = true ∧
    ({ hearing .done with identity := some { ident 1 2 false 0 with policy := .carryOn } } : State).stopAll = false := by decide

theorem test_hyp_BeginFieldsClamped : (0 : Byte).toNat ≤ 16 ∧ (hearing .done).swc.station = .done ∧
    Instr.busIdle ≠ .resetBegin ∧ (∃ t, exec .busIdle (hearing .done) = .next t) := by
  refine ⟨by decide, by decide, by decide, _, rfl⟩

theorem test_hyp_BeginInBarred : (hearing .barred).cfe.receiver = .frame ∧ (0 : Byte).toNat ≤ 16 ∧
    (hearing .barred).swc.station = .barred := by decide

theorem test_hyp_FramesWithoutEffect : (inState .listen).cfe.receiver ≠ .frame ∧ (hearing .listen).cfe.receiver = .frame ∧
    (hearing .listen).swc.station = .listen ∧ isTagged (.ceaseFrame 0 0) = true ∧
    (Instr.ceaseFrame 0 0).wellFormed = true ∧ isFrame (.ceaseFrame 17 0) = true ∧ (Instr.ceaseFrame 17 0).wellFormed = false ∧
    (hearing (.inStage .muster)).swc.station = .inStage .muster ∧ (1 : Byte) ≠ (hearing (.inStage .muster)).swc.params.tag ∧
    (hearing (.halted .soak)).swc.station = .halted .soak ∧ (hearing .done).swc.station ≠ .listen ∧
    (hearing .done).swc.station ≠ .reset := by decide

theorem test_hyp_CeaseHalts : (hearing (.inStage .stress)).cfe.receiver = .frame ∧ (0 : Byte).toNat ≤ 16 ∧
    Stage.stress ≠ .report ∧
    (hearing (.inStage .stress)).swc.station = .inStage .stress ∧ (hearing (.inStage .muster)).swc.station = .inStage .muster ∧
    (hearing (.inStage .stress)).cfe.onLine = none ∧ (hearing (.inStage .stress)).cfe.queue = [] := by decide

theorem test_hyp_PresentTaken : (hearing (.inStage .muster)).PeersWf ∧
    (hearing (.inStage .muster)).swc.station = .inStage .muster ∧
    (hearing (.inStage .muster)).identity = some (ident 1 2 false 0) ∧ 1 ≤ (16 : Byte).toNat ∧ (16 : Byte).toNat ≤ 16 ∧
    (16 : Byte).toNat ≠ (ident 1 2 false 0).slot ∧ (presentOf 0).tag = (hearing (.inStage .muster)).swc.params.tag := by
  refine ⟨⟨?_, ?_, ?_, ?_, ?_⟩, ?_⟩ <;> decide

theorem test_hyp_SlotConflictsTaken : (hearing (.inStage .muster)).swc.station = .inStage .muster ∧
    (hearing (.inStage .muster)).identity = some (ident 1 2 false 0) ∧ (1 : Byte).toNat = (ident 1 2 false 0).slot ∧
    (presentOf 0).tag = (hearing (.inStage .muster)).swc.params.tag ∧
    (sending .present false (hearing (.inStage .muster))).cfe.onLine.isSome = true ∧ 20 < 10 * (List.replicate 10 (0 : Byte)).length ∧
    ∃ t, exec (.contentionLoss 0) (sending .present false (hearing (.inStage .muster))) = .next t := by
  refine ⟨by decide, by decide, by decide, by decide, by decide, by decide, _, rfl⟩

theorem test_hyp_RecallFillsQueue : (16 : Byte).toNat ≤ 16 ∧ (hearing .done).swc.station = .done ∧
    (∀ i, i < 4 → recallAll.mask.getLsbD i = true → ((hearing .done).ownSlot - 1).testBit i = recallAll.target.getLsbD i) ∧
    ¬(∀ i, i < 4 → ({ recallAll with target := 1, mask := 1 } : RecallFields).mask.getLsbD i = true →
      ((hearing .done).ownSlot - 1).testBit i = ({ recallAll with target := 1, mask := 1 } : RecallFields).target.getLsbD i) := by
  decide

theorem test_hyp_ReceiverAndFrameStart : (inState .listen).swc.station ≠ .reset ∧ (inState .listen).cfe.receiver = .waitIdle ∧
    (withCfe (fun f => { f with receiver := .idle, queue := [.slotrep] }) (inState .done)).cfe.queue = .slotrep :: [] ∧
    (withCfe (fun f => { f with receiver := .idle, queue := [.slotrep] }) (inState .done)).cfe.onLine = none ∧
    (withCfe (fun f => { f with receiver := .frame }) (inState .done)).cfe.receiver = .frame := by decide

theorem test_hyp_OwnFramesEnd :
    (sending .slotrep false (inState .done)).cfe.queue = .slotrep :: [] ∧
    (sending .present true (inState (.halted .muster))).swc.station = .halted .muster ∧
    (sending .slotrep false (inState (.halted .soak))).cfe.queue = .slotrep :: [] ∧
    (withCfe (fun f => { f with queue := [.lanerep 0, .slotrep] }) (sending (.lanerep 0) false (inState (.halted .soak)))).cfe.queue =
      .lanerep 0 :: [.slotrep] ∧
    (sending .present true (inState (.inStage .muster))).swc.station = .inStage .muster ∧
    (sending .slotrep true (inState (.inStage .report))).swc.station = .inStage .report ∧
    (sending .slotrep false (inState (.inStage .soak))).HoldingWf ∧ 19 < 10 * (List.replicate 10 (0 : Byte)).length := by
  refine ⟨rfl, rfl, rfl, rfl, rfl, rfl, ?_, by decide⟩
  intro h; exact absurd h (by decide)

theorem test_hyp_OwnFramesAccepted : (inState .done).identity = some (Identity.ofStraps (strap 1 2 false 0)) ∧
    (inState .done).peers.length ≤ 15 := by decide

/-- A record with every optional field present, and a peer that did not announce. -/
def fullState : State :=
  { withChan (fun _ =>
      { static := { cls := some .unstable, bridged := true, partner := some .foreign, barred := false }
        tx := .off
        rx := { Rx.initial with invertedFlag := true, retrainCount := 16 }
        ident := { Ident.initial with state := .settled, heard := some { slot := 2, channel := 31 }, cls := some .noPeer }
        soak := { state := .settled, n := 0x010203040506, e := 16, outcome := some .failed }
        stress := { state := .settled, n := 0, e := 0, outcome := some .untested }
        snapshot := some { stage := .soak, kind := .bitError, n := 258 }
        scan := { state := .settled, attempts := 1, outcome := some .complete
                  figures := some { w := 64, h := 63, o := -15, c := 15 } } }) (inState .done) with
    peers := [{ slot := 2, announced := false, mismatch := true, expected := 1, heard := 1, matched := 1 }] }

/-- R177, byte by byte: all fields present, with the figures at their bounds. -/
theorem test_lanerep_full : lanerepPayload fullState 0 =
    [0, 0, 2, 0, 2, 31, 8, 0x29, 4, 0x20, 16, 1, 16, 1, 2, 3, 4, 5, 6, 6, 0, 0, 0, 0, 0, 0, 0, 0, 64, 63, 1, 31, 4, 2, 0, 0, 0,
      0, 1, 2, 1] := by decide +kernel

/-- R177: heard source, static class, partner, figures and snapshot absent. -/
theorem test_lanerep_absent : lanerepPayload (withChan (fun _ => { Channel.initial with
      ident := { Ident.initial with cls := some .untested }, soak := { StageCount.initial with outcome := some .untested }
      stress := { StageCount.initial with outcome := some .untested }
      scan := { Scan.initial with outcome := some .untested } }) (inState .done)) 0 =
    [0, 0, 2, 0, 255, 255, 9, 0, 255, 255, 0, 6, 0, 0, 0, 0, 0, 0, 0, 6, 0, 0, 0, 0, 0, 0, 0, 5, 255, 255, 255, 255,
      255, 255, 255, 255, 255, 255, 255, 255, 2] := by decide +kernel

/-- R64, R177: one failed channel and one peer record. -/
theorem test_slotrep : slotrepPayload fullState = [1, 0, 1, 0, 0, 0, 1, 0, 0, 0, 1, 2, 0x0E] := by decide +kernel

theorem test_hyp_OwnFrameBytes : fullState.expectedSource 0 = some { slot := 2, channel := 0 } ∧
    (fullState.chan 0).verdict fullState.swc.params = .fail ∧ fullState.peers[0]?.isSome = true ∧
    fullState.identity = some (ident 1 2 false 0) := by decide +kernel

theorem test_hyp_LineEdgesAndStopQualification : Level.low ≠ (inState .listen).lif.stopLine ∧
    (withLif (fun l => { l with stopRun := .timing }) (inState .listen)).lif.stopRun = .timing ∧
    (inState .listen).lif.stopLine = .high ∧ (inState .listen).lif.stopRun ≠ .timing ∧
    (withLif (fun l => { l with stepLine := .low }) (inState .listen)).lif.stepLine = .low ∧
    (withLif (fun l => { l with stepLine := .low }) State.reset).swc.station = .reset ∧
    (inState .listen).lif.stepLine = .high ∧ (inState .listen).lif.stepDrive = .released := by decide

theorem test_hyp_QualifiedLowTaken :
    (withLif (fun l => { l with stopRun := .timing, stopLine := .low }) (inState (.inStage .soak))).lif.stopRun = .timing ∧
    (withLif (fun l => { l with stopRun := .timing, stopLine := .low }) (inState (.inStage .soak))).lif.stopLine = .low ∧
    (inState (.inStage .soak)).lif.stopDrive = .released ∧ (inState (.inStage .soak)).stopAll = true ∧
    (inState (.inStage .soak)).swc.station = .inStage .soak ∧ (inState (.inStage .report)).swc.station = .inStage .report ∧
    (withLif (fun l => { l with stopDrive := .pulled }) (inState (.inStage .soak))).lif.stopDrive = .pulled := by decide

theorem test_hyp_BarrierTakenIn (st : Stage) : (waitingIn st).lif.phase = .waiting ∧ (waitingIn st).lif.barrierRun = true ∧
    (waitingIn st).swc.released = true ∧ (waitingIn st).swc.station = .inStage st ∧ (waitingIn st).cfe.queue = [] ∧
    (waitingIn st).emn.scanQueue = [] ∧ (waitingIn st).emn.skip = 0 ∧ (waitingIn st).lif.barrierLimit.isRunning = true := by
  cases st <;> decide

theorem test_hyp_ReportAndDoneEntry : (inState .done).lif.phase ≠ .waiting := by decide

theorem test_hyp_HoldOffAndRelease :
    (withLif (fun l => { l with phase := .holdOff, holdOff := .running 40 }) (inState (.inStage .report))).lif.phase = .holdOff ∧
    (withLif (fun l => { l with phase := .holdOff, holdOff := .running 40 }) (inState (.inStage .report))).releaseReady = true ∧
    (withLif (fun l => { l with phase := .holdOff, holdOff := .running 40 }) (inState (.inStage .static))).releaseReady = false ∧
    (withLif (fun l => { l with phase := .holdOff, holdOff := .running 40 }) (inState (.inStage .soak))).lif.holdOff.isRunning = true := by
  decide

theorem test_hyp_IdleSecondAndLampBlink :
    (withLif (fun l => { l with idleHigh := .running }) (inState .listen)).lif.idleHigh = .running ∧
    (inState .listen).swc.station = .listen ∧ (inState .done).swc.station ≠ .listen := by decide

theorem test_hyp_MusterAndReportLimits :
    (withSwc (fun w => { w with stageTimer := .running 1000 }) (inState (.inStage .muster))).swc.stageTimer.isRunning = true ∧
    (inState (.inStage .muster)).swc.limitExpired = false ∧ (inState (.inStage .report)).cfe.onLine = none ∧
    (sending .slotrep false (inState (.inStage .report))).cfe.onLine.isSome = true ∧
    (withSwc (fun w => { w with stageTimer := .running 1000, limitExpired := true })
      (sending .present false (inState (.inStage .muster)))).cfe.queue = [.present] := by decide

theorem test_hyp_StageLimitSettlesItems (st : Stage) (_ : st = .identify ∨ st = .soak ∨ st = .stress) :
    (withSwc (fun w => { w with stageTimer := .running 1000 }) (lockedIn st)).swc.stageTimer.isRunning = true ∧
    (lockedIn st).swc.limitExpired = false ∧ (lockedIn st).swc.station = .inStage st ∧
    (lockedIn st).identity = some (ident 1 2 false 0) ∧ (lockedIn st).inUse 0 = true := by cases st <;> decide +kernel

theorem test_hyp_SettleDelayStartsCounts :
    (withSwc (fun w => { w with settleDelay := .running 1000 }) (lockedIn .soak)).swc.settleDelay.isRunning = true ∧
    (lockedIn .soak).swc.station = .inStage .soak ∧ ((lockedIn .soak).chan 0).rx.state = .locked ∧
    ((withChan (fun r => { r with soak := { r.soak with state := .waiting } }) (lockedIn .soak)).chan 0).soak.state = .waiting ∧
    ((lockedIn .soak).chan 0).soak.state = .idle ∧
    ∀ st, (inState .done).swc.station ≠ .inStage st := by
  refine ⟨by decide, by decide, by decide +kernel, by decide +kernel, by decide +kernel, fun st => by cases st <;> decide⟩

theorem test_hyp_ProbeReadings :
    ({ inState (.inStage .static) with spu := .probing { roundAt 0 0 with reference := none, samples := [] } } : State).spu =
      .probing { roundAt 0 0 with reference := none, samples := [] } ∧
    (roundAt 0 0).reference.isSome = true ∧ ({ roundAt 0 0 with samples := (roundAt 0 0).samples.take 3 } : ProbeRound).samples.length < 4 := by
  refine ⟨rfl, by decide, by decide⟩

/-- R28, R67: channel 0 in use, channel 1 not, in a stage that terminates and in one that does not. -/
theorem test_terminations : (inState (.inStage .static)).rxTerminated 0 = true ∧
    (inState (.inStage .static)).rxTerminated 1 = false ∧ (inState (.inStage .stress)).rxTerminated 0 = true ∧
    (inState (.inStage .report)).rxTerminated 0 = false ∧ (inState (.inStage .static)).txTerminated 0 = true ∧
    (inState (.inStage .identify)).txTerminated 0 = false := by decide +kernel

/-- Channel 0 probed and shorted high (the stop cause), probed and terminated, and a round whose own pair is unused. -/
theorem test_hyp_RoundEndFindings :
    ({ inState (.inStage .static) with spu := .probing (roundAt 0 1600001) } : State).inUse (roundAt 0 1600001).round = true ∧
    (roundAt 0 1600001).reference.isSome = true ∧ (roundAt 0 1600001).samples.length = 4 ∧
    (∀ v ∈ (roundAt 0 1600001).samples, (v[0]).map sampleClass = some .shortHigh) ∧
    (inState (.inStage .static)).stopAll = true ∧
    (∀ v ∈ (roundAt 31 500000).samples, (v[31]).map sampleClass = some .terminated) ∧
    ({ inState (.inStage .static) with spu := .probing (roundAt 31 500000) } : State).inUse 31 = false ∧
    (roundAt 31 550001).rose 0 = true ∧ (roundAt 31 550000).rose 0 = false := by decide +kernel

/-- All four samples of one class give that class; two classes among them give UNSTABLE. -/
theorem test_hyp_RoundEndClass (x : StaticClass)
    (h : ∀ v ∈ (roundAt 0 1600001).samples, ∃ y, v[(roundAt 0 1600001).round.val] = some y ∧ sampleClass y = x) :
    StaticClass.shortHigh = x ∧
      staticClassOf (({ roundAt 0 0 with samples := (roundAt 0 0).samples.take 3 ++ (roundAt 0 500000).samples.take 1 }
        : ProbeRound).sampleClasses 0) = .unstable := by
  obtain ⟨y, hy, hx⟩ := h (Vector.replicate 32 (some 1600001)) (by simp [roundAt])
  have hy : some 1600001 = some y := by simpa using hy
  cases hy
  exact ⟨by rw [← hx]; decide, by decide +kernel⟩

theorem test_hyp_TokenPeriodStarts :
    ((withChan (fun r => { r with tx := .running { swing := 16, patternSent := 0, codeword := none } }) (lockedIn .stress)).chan 0).tx =
      .running { swing := 16, patternSent := 0, codeword := none } ∧
    (lockedIn .stress).identity = some (Identity.ofStraps (strap 1 2 false 0)) ∧
    (lockedIn .stress).swc.station = .inStage .stress ∧ ((lockedIn .stress).chan 0).tx = .off := by decide +kernel

theorem test_hyp_AttemptsStart (x : RxState) : ((withChan (rxIn x) (inState (.inStage .soak))).chan 0).rx.state = x ∧
    ((withChan (fun r => { r with rx := { r.rx with state := .retrainWait, retrainTimer := .running 1000 } })
      (inState (.inStage .soak))).chan 0).rx.retrainTimer.isRunning = true ∧
    (inState (.inStage .soak)).swc.limitExpired = false ∧
    (withSwc (fun w => { w with limitExpired := true }) (inState (.inStage .soak))).swc.limitExpired = true := by
  cases x <;> decide +kernel

theorem advance_zero (k : Nat) : advancePatternBy k 0 = 0 := by
  induction k with
  | zero => rfl
  | succ k ih =>
    have h : advancePattern 0 = 0 := by decide
    rw [advancePatternBy, h, ih]

theorem test_hyp_SearchesSucceed_seeding (k : Nat) (_ : k < 1024) :
    (Polarity.normal.take (0 : BitVec 1024)).getLsbD (1023 - k) =
      nextPatternBit (advancePatternBy k (Polarity.normal.take (0 : BitVec 31))) := by
  have h : nextPatternBit (advancePatternBy k 0) = false := by rw [advance_zero]; decide
  exact (by simp [Polarity.take] : (Polarity.normal.take (0 : BitVec 1024)).getLsbD (1023 - k) = false).trans h.symm

/-- A lane whose last predicted bit differs keeps the search going. -/
theorem test_hyp_SearchesSucceed_differs : (1023 : Nat) < 1024 ∧
    (Polarity.normal.take (1 : BitVec 1024)).getLsbD (1023 - 1023) ≠
      nextPatternBit (advancePatternBy 1023 (Polarity.normal.take (0 : BitVec 31))) := by
  refine ⟨by decide, ?_⟩
  have h : nextPatternBit (advancePatternBy 1023 0) = false := by rw [advance_zero]; decide
  show (1 : BitVec 1024).getLsbD 0 ≠ nextPatternBit (advancePatternBy 1023 0)
  rw [h]; simp

/-- An all-zero lane follows an all-zero seed, in either polarity. -/
theorem test_hyp_SearchesSucceed :
    ((withChan (rxIn .searching) (inState (.inStage .identify))).chan 0).rx.state = .searching ∧
    searchResult marker marker 0 0 = some (.normal, 0) ∧
    searchResult (~~~marker) (~~~marker) (BitVec.allOnes 31) (BitVec.allOnes 1024) = some (.inverted, 0) ∧
    searchResult marker (~~~marker) 0 0 = none ∧ searchResult marker marker 1 0 = none ∧
    searchResult marker marker 0 1 = none := by decide +kernel

theorem test_hyp_AttemptsFail (x : RxState) : ((withChan (rxIn x) (inState (.inStage .soak))).chan 0).rx.state = x ∧
    (inState (.inStage .soak)).swc.station = .inStage .soak ∧
    ((withChan (rxIn x) (inState (.inStage .soak))).chan 0).rx.retrainCount < (inState (.inStage .soak)).swc.params.budget ∧
    (inState (.inStage .soak)).swc.params.budget ≤
      ((withChan (fun r => { r with rx := { r.rx with state := x, retrainCount := 1 } }) (inState (.inStage .soak))).chan 0).rx.retrainCount := by
  cases x <;> decide +kernel

theorem test_hyp_LockIsLost : ((lockedIn .soak).chan 0).rx.state = .locked ∧ (lockedIn .soak).swc.station = .inStage .soak ∧
    ((lockedIn .soak).chan 0).snapshot = none ∧
    ((withChan (fun r => { r with scan := { r.scan with state := .granted, attempts := 2 } }) (lockedIn .stress)).chan 0).scan.state =
      .granted := by decide +kernel

/-- Three bits off is a seen marker, four a missed one; a miss count of 3 is the boundary. -/
theorem test_hyp_MarkersAndEmptyBlocks : markerSeen (marker ^^^ 7) = true ∧ markerSeen (marker ^^^ 15) = false ∧
    ((withChan (fun r => { r with rx := { r.rx with missCount := 3 } }) (lockedIn .soak)).chan 0).rx.missCount = 3 ∧
    ((lockedIn .soak).chan 0).rx.state.following = true ∧ (inState (.inStage .soak)).swc.station = .inStage .soak ∧
    decodeToken (soakToken.encode ^^^ 3) = .uncorrectable ∧
    decodeToken ({ soakToken with stage := 5 } : Token).encode = .clean { soakToken with stage := 5 } ∧
    decodeToken ({ soakToken with slot := 17 } : Token).encode = .clean { soakToken with slot := 17 } := by decide +kernel

theorem test_hyp_ValidTokensTaken : (lockedIn .soak).PeersWf ∧ (lockedIn .soak).swc.station = .inStage .soak ∧
    (lockedIn .soak).identity = some (ident 1 2 false 0) ∧ ((lockedIn .soak).chan 0).rx.state = .locked ∧
    markerSeen (((lockedIn .soak).chan 0).rx.polarity.take marker) = true ∧
    decodeToken (((lockedIn .soak).chan 0).rx.polarity.take soakToken.encode) = .clean soakToken ∧
    1 ≤ soakToken.slot.toNat ∧ soakToken.slot.toNat ≤ 16 ∧ soakToken.stage.toNat = Stage.soak.code ∧
    soakToken.tag = (lockedIn .soak).swc.params.tag ∧
    ¬(soakToken.slotsMinusOne.toNat + 1 ≠ (ident 1 2 false 0).slots ∨
      (soakToken.topology = true ↔ (ident 1 2 false 0).topology = .mesh)) := by
  refine ⟨⟨?_, ?_, ?_, ?_, ?_⟩, ?_⟩ <;> decide +kernel

/-- The five rows of R110, at channel 0 of slot 4 in a mesh of six with four lanes: it expects channel 8 of slot 1. -/
theorem test_hyp_MappingClassesGiven : (ident 4 6 false 2).expectedSource 0 = some { slot := 1, channel := 8 } ∧
    classFromCapture (ident 4 6 false 2) 0 { slot := 4, channel := 8 } = .loopback ∧
    classFromCapture (ident 4 6 false 2) 0 { slot := 1, channel := 8 } = .match_ ∧
    classFromCapture (ident 4 6 false 2) 0 { slot := 1, channel := 11 } = .laneSwap ∧
    classFromCapture (ident 4 6 false 2) 0 { slot := 1, channel := 12 } = .foreignPort ∧
    classFromCapture (ident 4 6 false 2) 0 { slot := 2, channel := 8 } = .wrongPeer ∧
    (inState (.inStage .identify)).expectedSource 0 = some { slot := 2, channel := 0 } ∧
    ({ inState (.inStage .identify) with peers := [{ slot := 2, announced := true, mismatch := false, expected := 1, heard := 0
                                                     matched := 0 }] } : State).silentClass 0 = .silent ∧
    ({ inState (.inStage .identify) with peers := [{ slot := 2, announced := false, mismatch := false, expected := 1, heard := 0
                                                     matched := 0 }] } : State).silentClass 0 = .noPeer ∧
    (inState (.inStage .identify)).silentClass 0 = .noPeer := by decide +kernel

theorem test_hyp_IdentifyCompletion : (lockedIn .identify).swc.station = .inStage .identify ∧
    (withChan (fun r => { r with ident := { r.ident with state := .opened } }) (lockedIn .identify)).identOpen = true ∧
    (withChan (fun r => { r with ident := { r.ident with state := .settled } }) (lockedIn .identify)).identOpen = false := by
  decide +kernel

theorem test_hyp_ComparedBitsTaken :
    ((withChan (fun r => { r with rx := { r.rx with reference := some 1 }, soak := { r.soak with state := .counting, e := 15 } })
      (lockedIn .soak)).chan 0).rx.reference = some 1 ∧ RxState.locked.following = true ∧
    ((withChan (fun r => { r with soak := { r.soak with state := .counting } }) (lockedIn .soak)).chan 0).soak.state = .counting ∧
    (granted (.spot none) spotFirstPoint (lockedIn .soak)).emn.grant = some (grantAt 0 (.spot none) spotFirstPoint) := by
  decide +kernel

/-- The bit numbers where the clauses meet, P = 16: one below 2^P the bit is the last of its point, at 2^P the point is over;
and the grant of another channel. -/
theorem test_hyp_ComparedBitsTaken_point (pr : Procedure) (pt : EyePoint) :
    ((seededIn .spotRun .soak).chan 0).rx.reference = some 1 ∧ ((seededIn .spotRun .soak).chan 0).rx.state.following = true ∧
    (grantedAt 65535 pr pt (seededIn .spotRun .soak)).emn.grant = some { grantAt 0 pr pt with bits := 65535 } ∧
    65535 < 2 ^ (seededIn .spotRun .soak).swc.params.p ∧
    (grantedAt 65536 pr pt (seededIn .spotRun .soak)).emn.grant = some { grantAt 0 pr pt with bits := 65536 } ∧
    65536 = 2 ^ (seededIn .spotRun .soak).swc.params.p ∧
    (∃ t, exec (.pointEnd false) (grantedAt 65536 pr pt (seededIn .spotRun .soak)) = .next t) ∧ (0 : Chan) ≠ 1 :=
  ⟨by decide +kernel, by decide +kernel, rfl, by decide, rfl, by decide, ⟨_, rfl⟩, by decide⟩

/-- R138: the 65,536th bit brings the bit number to 2^P, a point end one bit earlier finds no point over, and the bit after is the
first of the second point even when no POINT_END came between. -/
theorem test_point_bits : Emn.takeBit 16 0 true (grantedAt 65535 (.spot none) spotFirstPoint (inState (.inStage .soak))).emn =
      { Emn.initial with grant := some { grantAt 0 (.spot none) spotFirstPoint with bits := 65536, disagreed := true } } ∧
    (grantedAt 65535 (.spot none) spotFirstPoint (inState (.inStage .soak))).endPoint =
      grantedAt 65535 (.spot none) spotFirstPoint (inState (.inStage .soak)) ∧
    ((grantedAt 65536 (.spot none) spotFirstPoint (seededIn .spotRun .soak)).endPointOf 0).emn.grant =
      some (grantAt 0 (.spot (some true)) spotSecondPoint) := by decide +kernel

/-- R122 at the bounds: the bit that meets the threshold, the bit before it, and the sixteenth error. -/
theorem test_count_bounds :
    StageCount.takeBit 20 false { state := .counting, n := 3145727, e := 0, outcome := none } =
      { state := .settled, n := 3145728, e := 0, outcome := some .met } ∧
    StageCount.takeBit 20 true { state := .counting, n := 3145727, e := 0, outcome := none } =
      { state := .counting, n := 3145728, e := 1, outcome := none } ∧
    StageCount.takeBit 20 true { state := .counting, n := 99, e := 15, outcome := none } =
      { state := .settled, n := 100, e := 16, outcome := some .failed } := by decide

theorem test_hyp_SpotPointsEnd (pr : Procedure) : (grantedAt 65536 pr spotSecondPoint (lockedIn .soak)).emn.grant =
    some { grantAt 0 pr spotSecondPoint with bits := 65536 } ∧ (lockedIn .soak).swc.station = .inStage .soak ∧
    65536 = 2 ^ (lockedIn .soak).swc.params.p ∧ (0 : Nat) ≠ 2 ^ (lockedIn .soak).swc.params.p := ⟨rfl, rfl, by decide, by decide⟩

/-- A RIGHT step goes on at its 30th point and ends at its 31st; LEFT ends at its 32nd. -/
theorem test_hyp_ScanPointsEnd (pr : Procedure) (pt : EyePoint) :
    (grantedAt 65536 pr pt (lockedIn .stress)).emn.grant = some { grantAt 0 pr pt with bits := 65536 } ∧
    65536 = 2 ^ (lockedIn .stress).swc.params.p ∧
    ScanStep.right.index (ScanStep.right.point 30) < ScanStep.right.last ∧
    ScanStep.right.last ≤ ScanStep.right.index (ScanStep.right.point 31) ∧
    ScanStep.left.index (ScanStep.left.point 31) < ScanStep.left.last ∧
    ScanStep.left.last ≤ ScanStep.left.index (ScanStep.left.point 32) ∧
    31 ≤ ScanStep.downB.index (ScanStep.downB.point 31) := ⟨rfl, by decide, by decide, by decide, by decide, by decide, by decide⟩

theorem test_hyp_ScanStepsAndFigures : 1 ≤ 32 ∧ 32 ≤ 32 ∧ 31 ≤ 31 ∧ ScanStep.downB ≠ .origin ∧
    ScanReadings.figures { r := some 32, l := some 32, upA := some 0, downA := some 31, upB := some 31, downB := some 0 } =
      { w := 64, h := 32, o := 15, c := 0 } ∧
    ScanReadings.figures { r := some 1, l := some 0, upA := some 31, downA := some 0, upB := some 31, downB := some 0 } =
      { w := 1, h := 32, o := 0, c := 15 } := by decide

theorem test_hyp_GrantDecision : (granted (.spot none) spotFirstPoint (lockedIn .stress)).emn.grant ≠ none ∧
    (inState (.inStage .stress)).emn.spotPending = [] ∧
    (withEmn (fun m => { m with spotPending := [0], scanQueue := [0], skip := 3 }) (inState (.inStage .stress))).emn.skip < 4 ∧
    4 ≤ (withEmn (fun m => { m with spotPending := [0], scanQueue := [0], skip := 4 }) (inState (.inStage .stress))).emn.skip ∧
    (withEmn (fun m => { m with scanQueue := [0] }) (inState (.inStage .stress))).emn.scanQueue = 0 :: [] := by decide

/-- One record of each verdict. -/
theorem test_hyp_ChannelVerdicts :
    (({ Channel.initial with ident := { Ident.initial with cls := some .noPeer }
                             static := { StaticFields.initial with cls := some .openPair } } : Channel).verdict Params.initial) =
      .excused ∧
    ({ Channel.initial with static := { StaticFields.initial with bridged := true } } : Channel).verdict Params.initial = .fail ∧
    Channel.initial.verdict Params.initial = .untested ∧
    ({ Channel.initial with
        static := { StaticFields.initial with cls := some .terminated }, ident := { Ident.initial with cls := some .match_ }
        soak := { StageCount.initial with outcome := some .met }, stress := { StageCount.initial with outcome := some .met }
        scan := { Scan.initial with outcome := some .complete, figures := some { w := 1, h := 1, o := 0, c := 0 } } }
      : Channel).verdict Params.initial = .pass := by decide

theorem test_hyp_SlotVerdictsAndLamps :
    ({ inState .barred with identity := some (ident 4 1 true 0) } : State).slotVerdict = .barred ∧
    (withSwc (fun w => { w with flags := { w.flags with slotConflict := true } }) (inState .done)).slotVerdict = .fail ∧
    (inState .done).slotVerdict = .incomplete ∧ Lamp.steady.pattern ≠ .blink .oneHz := by decide +kernel

/-! ### Witnesses for the invariants -/

/-- A station in LISTEN, as a reset end leaves it. -/
def listening : State := withLif (fun l => { l with stopRun := .timing, idleHigh := .running }) (inState .listen)

theorem listening_chan (c : Chan) : listening.chan c = Channel.initial := by
  simp [State.chan, listening, withLif, inState, State.reset, State.inReset]

/-- The premises of every invariant statement, met together outside reset. -/
theorem test_hyp_EveryStepKeepsWellFormed : listening.Wf ∧ ∃ t, step listening = .next t := by
  refine ⟨?_, _, rfl⟩
  have chan := listening_chan
  constructor
  case identity => exact ⟨fun id h => ⟨strap 1 2 false 0, by cases h; rfl⟩, by decide⟩
  case holding => intro h; exact absurd h (by decide)
  case lines => constructor <;> first | decide | (intro h; exact absurd h (by decide))
  case transmitters => intro c; rw [chan]; rfl
  case lanes =>
    constructor
    case unused => intro c _; exact chan c
    case rests => intro _ c; rw [chan]; exact Or.inl rfl
    case works => intro h; exact absurd h (by decide)
    all_goals intro c; rw [chan]; decide
  case monitor =>
    constructor
    case spot_granted => intro c; rw [chan]; exact ⟨fun ⟨_, _, h, _⟩ => (by cases h), fun h => (by cases h)⟩
    case scan_granted => intro c; rw [chan]; exact ⟨fun ⟨_, _, _, h, _⟩ => (by cases h), fun h => (by cases h)⟩
    case spot_pending => intro c; rw [chan]; exact ⟨fun h => (by cases h), fun h => (by cases h)⟩
    case scan_pending => intro c; rw [chan]; exact ⟨fun h => (by cases h), fun h => (by cases h)⟩
    case scan_locked => intro c h; rw [chan] at h; exact absurd h (by decide)
    case scan_stage => intro c h; rw [chan] at h; exact absurd h (by decide)
    case scan_idle => intro st c h; cases h
    case spot_order => exact List.Pairwise.nil
    case free_idle => intro _; exact ⟨rfl, rfl⟩
    all_goals decide
  case counts =>
    constructor
    case soak => intro c; rw [chan]; exact ⟨rfl, rfl⟩
    case stress => intro c; rw [chan]; exact ⟨rfl, rfl⟩
    all_goals intro st c h; cases h
  case idents =>
    constructor
    · intro c; rw [chan]; constructor <;> decide
    · intro st c h; cases h
  case settled => constructor <;> intro h <;> exact absurd h (by decide)
  case peers => constructor <;> decide
  case queue =>
    constructor
    case on_line => intro lf h; cases h
    case reports_left => rintro ⟨st, h⟩; cases h
    case in_use => intro c h; cases h
    case present_when => intro h; cases h
    case empty_when => intro _; rfl
    case present_alone => intro h; cases h
    all_goals decide
  case control =>
    constructor
    case params => constructor <;> decide
    case halted => intro st h; cases h
    case not_halted => intro _ _; rfl
    case foreign => intro h; exact absurd h (by decide)
  case lamps => exact ⟨rfl, rfl⟩

theorem test_hyp_ControlKept : State.reset.IdentityWf := by
  constructor
  · intro id h; exact absurd h (by simp [State.reset, State.inReset])
  · decide

end Sys2Proof.Tests
end

section
/-! SUPPORT. What one command can do, said once: every command answers a next state, and State.Effect lists the states that a
command other than the start or the end of a reset can leave. Changes of the line interface, the frame engine, the probe or the
lamps alone are not told apart. -/
namespace Sys2Proof.Machine

/-- R13: the state in which the start of a reset leaves the part. -/
def State.resetBegun (s : State) : State := { State.inReset s.lif.stepLine s.lif.stopLine with pending := s.pending }

/-- R1, R14: the state in which the end of a reset leaves the part. -/
def State.resetEnded (straps : Straps) (s : State) : State :=
  ((({ s with identity := some (Identity.ofStraps straps) } : State).mapSwc fun w =>
    { w with station := if (Identity.ofStraps straps).barred then .barred else .listen }).mapLif Lif.endReset).refreshLamps

/-- What a command other than RESET_BEGIN and RESET_END can leave, with the conditions under which it acts. -/
inductive State.Effect (s : State) : State → Prop
  | unchanged : s.Effect s
  | line (f : Lif → Lif) : s.Effect (s.mapLif f)
  | frameEngine (f : Cfe → Cfe) : s.Effect (s.mapCfe f)
  | probe (x : Spu) : s.Effect (s.setSpu x)
  | blink : s.Effect (s.mapSwc fun w => { w with lampOk := w.lampOk.toggle, lampFlt := w.lampFlt.toggle })
  | beginTaken (f : BeginFields) : s.Effect ((s.mapCfe Cfe.endFrame).takeBegin f)
  | ceaseTaken (tag : Byte) : s.Effect ((s.mapCfe Cfe.endFrame).takeCease tag)
  | presentTaken (src : Byte) (f : PresentFields) : s.Effect ((s.mapCfe Cfe.endFrame).takePresent src f)
  | recallTaken (f : RecallFields) : s.Effect ((s.mapCfe Cfe.endFrame).takeRecall f)
  | reportTaken : s.Effect (s.mapCfe Cfe.endFrame).noteTaggedFrame
  | frameSent (f : Cfe → Cfe) (e : Entry) : s.Effect ((s.mapCfe f).afterRemoval e)
  | frameLost (lf : LineFrame) : s.Effect (s.loseFrame lf)
  | conflict (lf : LineFrame) : s.Effect (s.loseFrame lf).takeSlotConflict
  | stopLow : s.Effect (s.mapLif Lif.qualifyStop).takeQualifiedLow
  | nextStage {st st' : Stage} (hs : s.swc.station = .inStage st) (hn : st.next = some st') (hr : s.swc.released = true) :
      s.Effect ((s.mapLif Lif.startHoldOff).enterStage st')
  | sweepEnd (hs : s.swc.station = .inStage .report) : s.Effect s.enterDone
  | released : s.Effect s.release
  | stallInReport (hs : s.swc.station = .inStage .report) :
      s.Effect (s.setFlags fun f => { f with barrierStall := true }).enterDone
  | stall : s.Effect (((s.setFlags fun f => { f with barrierStall := true }).mapLif Lif.pullStop).halt .barrierStall)
  | quiet (f : Lif → Lif) (hs : s.swc.station = .listen) : s.Effect ((s.mapLif f).setForeign false)
  | queueLimit (f : Cfe → Cfe) : s.Effect (s.markLimit.mapCfe f).tryRelease
  | itemLimit {st : Stage} (hs : s.swc.station = .inStage st) : s.Effect (State.finish s (s.markLimit.expireItems st))
  | doubleLimit (f : Cfe → Cfe) : s.Effect (s.mapCfe f).tryRelease
  | round (p : ProbeRound) (x : Spu) : s.Effect ((s.writeFindings p).setSpu x).tryRelease
  | roundShortHigh (p : ProbeRound) (x : Spu) : s.Effect ((s.writeFindings p).setSpu x).takeShortHigh.tryRelease
  | tokenPeriod {c : Chan} {t : TxRun} (t' : TxRun) (ht : (s.chan c).tx = .running t) :
      s.Effect (s.mapChan c fun r => { r with tx := .running t' })
  | clockFound {c : Chan} (hx : (s.chan c).rx.state = .acquiring) : s.Effect (s.mapChan c (Channel.toRx .searching))
  | attemptFails {c : Chan} (hx : (s.chan c).rx.state.attempting = true) : s.Effect (s.failAttempt c)
  | searchSucceeds {c : Chan} (pol : Polarity) (ref : BitVec 31) (hx : (s.chan c).rx.state = .searching) :
      s.Effect ((s.mapChan c (searchRecord pol ref)).mapEmn fun m => { m with spotPending := addSpot c m.spotPending }).arbitrate
  | markerSeen {c : Chan} (hx : (s.chan c).rx.state.following = true) : s.Effect (s.mapChan c (setMiss 0))
  | block {c : Chan} (w : BitVec 32) (hx : (s.chan c).rx.state = .locked) :
      s.Effect (State.finish s ((s.mapChan c (setMiss 0)).takeBlock c w))
  | markerMissed {c : Chan} (hx : (s.chan c).rx.state.following = true) (hm : (s.chan c).rx.missCount + 1 < missLimit) :
      s.Effect (s.mapChan c (setMiss ((s.chan c).rx.missCount + 1)))
  | blockMissed {c : Chan} (hx : (s.chan c).rx.state = .locked) (hm : (s.chan c).rx.missCount + 1 < missLimit) :
      s.Effect (State.finish s ((s.mapChan c (setMiss ((s.chan c).rx.missCount + 1))).takeNoToken c))
  | framingLost {c : Chan} (hx : (s.chan c).rx.state = .locked) :
      s.Effect ((s.mapChan c (setMiss ((s.chan c).rx.missCount + 1))).loseLock c)
  | framingFails {c : Chan} (hx : (s.chan c).rx.state.following = true) (hl : (s.chan c).rx.state ≠ .locked) :
      s.Effect ((s.mapChan c (setMiss ((s.chan c).rx.missCount + 1))).failAttempt c)
  | lockLost {c : Chan} (hx : (s.chan c).rx.state = .locked) : s.Effect (s.loseLock c)
  | retrainHeld {c : Chan} (hx : (s.chan c).rx.state = .retrainWait) :
      s.Effect (s.mapChan c fun r => { r with rx := { r.rx with state := .held, retrainTimer := .stopped } })
  | retrain {c : Chan} (hx : (s.chan c).rx.state = .retrainWait) :
      s.Effect (s.mapChan c fun r => { r with rx := r.rx.startAttempt })
  | delayEnd (st : Stage) :
      s.Effect ((s.mapSwc fun w => { w with settleDelay := .stopped }).mapInUse fun _ r => delayRecord st r)
  | delayIdle : s.Effect (s.mapSwc fun w => { w with settleDelay := .stopped })
  | compared (c : Chan) (received monitor : Bool) : s.Effect ((s.endPointOf c).takeCompared c received monitor)
  | pointEnd : s.Effect s.endPoint

/-- R167, R168: a received frame has no effect, is dropped, or is taken. -/
theorem receive_effect {ok : Bool} {take : State → State} {s : State} (h : s.Effect (take (s.mapCfe Cfe.endFrame))) :
    ∃ t, receive ok take s = .next t ∧ s.Effect t := by
  unfold receive
  split
  · split
    · exact ⟨_, rfl, h⟩
    · exact ⟨_, rfl, .frameEngine _⟩
  · exact ⟨_, rfl, .unchanged⟩

/-- A command that acts under a condition, and leaves the part as it is otherwise. -/
theorem ite_effect {p : Prop} [Decidable p] {s t : State} (h : p → s.Effect t) :
    ∃ u, (if p then .next t else .next s : Result) = .next u ∧ s.Effect u := by
  split
  · exact ⟨_, rfl, h ‹p›⟩
  · exact ⟨_, rfl, .unchanged⟩

/-! ### The frame engine -/

theorem execFrameDrop_effect (d : DropCause) (s : State) : ∃ t, execFrameDrop d s = .next t ∧ s.Effect t := by
  cases d <;> exact ite_effect fun _ => .frameEngine _

theorem execFrameStart_effect (s : State) : ∃ t, execFrameStart s = .next t ∧ s.Effect t := by
  unfold execFrameStart
  split
  · exact ⟨_, rfl, .unchanged⟩
  · exact ite_effect fun _ => .frameEngine _

theorem execFrameComplete_effect (s : State) : ∃ t, execFrameComplete s = .next t ∧ s.Effect t := by
  unfold execFrameComplete
  split
  · exact ⟨_, rfl, .unchanged⟩
  · exact ⟨_, rfl, .frameSent _ _⟩

theorem execContentionLoss_effect (bit : Nat) (s : State) : ∃ t, execContentionLoss bit s = .next t ∧ s.Effect t := by
  unfold execContentionLoss
  split
  · exact ⟨_, rfl, .unchanged⟩
  · split
    · split
      · exact ⟨_, rfl, .conflict _⟩
      · exact ⟨_, rfl, .frameLost _⟩
    · exact ⟨_, rfl, .unchanged⟩

/-! ### The stage and stop lines -/

theorem execCbStopEdge_effect (l : Level) (s : State) : ∃ t, execCbStopEdge l s = .next t ∧ s.Effect t := by
  unfold execCbStopEdge
  split
  · exact ⟨_, rfl, .unchanged⟩
  · exact ⟨_, rfl, .line _⟩

theorem execCbStepEdge_effect (l : Level) (s : State) : ∃ t, execCbStepEdge l s = .next t ∧ s.Effect t := by
  unfold execCbStepEdge
  split
  · exact ⟨_, rfl, .unchanged⟩
  · exact ⟨_, rfl, .line _⟩

/-- REPORT alone has no stage after it (R20). -/
theorem Stage.next_eq_none {st : Stage} (h : st.next = none) : st = .report := by
  cases st <;> simp_all [Stage.next]

theorem execBarrierTaken_effect (s : State) : ∃ t, execBarrierTaken s = .next t ∧ s.Effect t := by
  unfold execBarrierTaken
  split
  · rename_i h
    split
    · rename_i st hs
      split
      · rename_i st' hn
        exact ⟨_, rfl, .nextStage hs hn h.2.2⟩
      · rename_i hn
        exact ⟨_, rfl, .sweepEnd (by rw [hs, Stage.next_eq_none hn])⟩
    all_goals exact ⟨_, rfl, .unchanged⟩
  · exact ⟨_, rfl, .unchanged⟩

theorem execHoldOffExpiry_effect (s : State) : ∃ t, execHoldOffExpiry s = .next t ∧ s.Effect t := by
  unfold execHoldOffExpiry
  split
  · split
    · exact ⟨_, rfl, .released⟩
    · exact ⟨_, rfl, .line _⟩
  · exact ⟨_, rfl, .unchanged⟩

theorem execBarrierLimitExpiry_effect (s : State) : ∃ t, execBarrierLimitExpiry s = .next t ∧ s.Effect t := by
  unfold execBarrierLimitExpiry
  split
  · split
    · exact ⟨_, rfl, .stallInReport ‹_›⟩
    · exact ⟨_, rfl, .stall⟩
    all_goals exact ⟨_, rfl, .unchanged⟩
  · exact ⟨_, rfl, .unchanged⟩

theorem execIdleSecond_effect (s : State) : ∃ t, execIdleSecond s = .next t ∧ s.Effect t := by
  unfold execIdleSecond
  split
  · dsimp only
    split
    · exact ⟨_, rfl, .quiet _ ‹_›⟩
    · exact ⟨_, rfl, .line _⟩
  · exact ⟨_, rfl, .unchanged⟩

/-! ### Limits and the settle delay -/

theorem execStageLimitExpiry_effect (s : State) : ∃ t, execStageLimitExpiry s = .next t ∧ s.Effect t := by
  unfold execStageLimitExpiry
  split
  · split
    · exact ⟨_, rfl, .queueLimit id⟩
    · exact ⟨_, rfl, .queueLimit _⟩
    · exact ⟨_, rfl, .unchanged⟩
    · exact ⟨_, rfl, .itemLimit ‹_›⟩
    all_goals exact ⟨_, rfl, .unchanged⟩
  · exact ⟨_, rfl, .unchanged⟩

theorem execMusterDoubleLimit_effect (s : State) : ∃ t, execMusterDoubleLimit s = .next t ∧ s.Effect t := by
  unfold execMusterDoubleLimit
  split
  · split
    · exact ⟨_, rfl, .frameEngine _⟩
    · exact ⟨_, rfl, .doubleLimit _⟩
  · exact ⟨_, rfl, .unchanged⟩

theorem execSettleDelayExpiry_effect (s : State) : ∃ t, execSettleDelayExpiry s = .next t ∧ s.Effect t := by
  unfold execSettleDelayExpiry
  split
  · dsimp only
    split
    · exact ⟨_, rfl, .delayEnd _⟩
    all_goals exact ⟨_, rfl, .delayIdle⟩
  · exact ⟨_, rfl, .unchanged⟩

/-! ### The static probe -/

theorem execProbeReferenceReading_effect (v : Vector MicroVolts 32) (s : State) :
    ∃ t, execProbeReferenceReading v s = .next t ∧ s.Effect t := by
  unfold execProbeReferenceReading
  split
  · exact ite_effect fun _ => .probe _
  all_goals exact ⟨_, rfl, .unchanged⟩

theorem execProbeSample_effect (v : Vector MicroVolts 32) (s : State) :
    ∃ t, execProbeSample v s = .next t ∧ s.Effect t := by
  unfold execProbeSample
  split
  · exact ite_effect fun _ => .probe _
  all_goals exact ⟨_, rfl, .unchanged⟩

theorem execProbeCurrentOn_effect (s : State) : ∃ t, execProbeCurrentOn s = .next t ∧ s.Effect t := by
  unfold execProbeCurrentOn
  split
  · exact ⟨_, rfl, .probe _⟩
  all_goals exact ⟨_, rfl, .unchanged⟩

theorem execProbeCurrentOff_effect (s : State) : ∃ t, execProbeCurrentOff s = .next t ∧ s.Effect t := by
  unfold execProbeCurrentOff
  split
  · exact ⟨_, rfl, .probe _⟩
  all_goals exact ⟨_, rfl, .unchanged⟩

theorem execRoundEnd_effect (s : State) : ∃ t, execRoundEnd s = .next t ∧ s.Effect t := by
  unfold execRoundEnd
  split
  · split
    · dsimp only
      refine ⟨_, rfl, ?_⟩
      split
      · exact .roundShortHigh _ _
      · exact .round _ _
    · exact ⟨_, rfl, .unchanged⟩
  all_goals exact ⟨_, rfl, .unchanged⟩

/-! ### The lanes -/

theorem execTokenPeriodStart_effect (c : Chan) (s : State) : ∃ t, execTokenPeriodStart c s = .next t ∧ s.Effect t := by
  unfold execTokenPeriodStart
  split
  · exact ⟨_, rfl, .tokenPeriod _ ‹_›⟩
  · exact ⟨_, rfl, .unchanged⟩

theorem execSearchSuccess_effect (c : Chan) (f1 f2 : BitVec 32) (seed : BitVec 31) (next : BitVec 1024) (s : State) :
    ∃ t, execSearchSuccess c f1 f2 seed next s = .next t ∧ s.Effect t := by
  unfold execSearchSuccess
  split
  · split
    · exact ⟨_, rfl, .searchSucceeds _ _ ‹_›⟩
    · exact ⟨_, rfl, .unchanged⟩
  · exact ⟨_, rfl, .unchanged⟩

theorem execTokenBlockEnd_effect (c : Chan) (m w : BitVec 32) (s : State) :
    ∃ t, execTokenBlockEnd c m w s = .next t ∧ s.Effect t := by
  unfold execTokenBlockEnd
  dsimp only
  split
  · rename_i hf
    split
    · split
      · exact ⟨_, rfl, .block _ ‹_›⟩
      · exact ⟨_, rfl, .markerSeen hf⟩
    · split
      · split
        · exact ⟨_, rfl, .framingLost ‹_›⟩
        · exact ⟨_, rfl, .framingFails hf ‹_›⟩
      · rename_i hm
        split
        · exact ⟨_, rfl, .blockMissed ‹_› (by omega)⟩
        · exact ⟨_, rfl, .markerMissed hf (by omega)⟩
  · exact ⟨_, rfl, .unchanged⟩

theorem execClockLoss_effect (c : Chan) (s : State) : ∃ t, execClockLoss c s = .next t ∧ s.Effect t := by
  unfold execClockLoss
  split
  case h_4 hx => exact ⟨_, rfl, .lockLost hx⟩
  case h_1 hx | h_2 hx | h_3 hx => exact ⟨_, rfl, .attemptFails (by rw [hx]; rfl)⟩
  all_goals exact ⟨_, rfl, .unchanged⟩

theorem execRetrainTimerExpiry_effect (c : Chan) (s : State) : ∃ t, execRetrainTimerExpiry c s = .next t ∧ s.Effect t := by
  unfold execRetrainTimerExpiry
  refine ite_effect fun h => ?_
  cases s.swc.limitExpired
  · exact .retrain h.1
  · exact .retrainHeld h.1

/-! ### Every command -/

/-- Every command other than the start and the end of a reset answers a state that Effect lists. -/
theorem exec_effect {c : Instr} (hb : c ≠ .resetBegin) (he : ∀ st, c ≠ .resetEnd st) (s : State) :
    ∃ t, exec c s = .next t ∧ s.Effect t := by
  cases c with
  | resetBegin => exact absurd rfl hb
  | resetEnd st => exact absurd rfl (he st)
  | beginFrame src f => exact receive_effect (.beginTaken f)
  | ceaseFrame src tag => exact receive_effect (.ceaseTaken tag)
  | presentFrame src f => exact receive_effect (.presentTaken src f)
  | recallFrame src f => exact receive_effect (.recallTaken f)
  | lanerepReceived src p => exact receive_effect .reportTaken
  | slotrepReceived src p => exact receive_effect .reportTaken
  | busIdle => exact ite_effect fun _ => .frameEngine _
  | startBit => exact ite_effect fun _ => .frameEngine _
  | frameDrop d => exact execFrameDrop_effect d s
  | frameStart => exact execFrameStart_effect s
  | frameComplete => exact execFrameComplete_effect s
  | contentionLoss bit => exact execContentionLoss_effect bit s
  | cbStopEdge l => exact execCbStopEdge_effect l s
  | stopQualifiedLow => exact ite_effect fun _ => .stopLow
  | stopQualifiedHigh => exact ite_effect fun _ => .line _
  | cbStepEdge l => exact execCbStepEdge_effect l s
  | barrierTaken => exact execBarrierTaken_effect s
  | holdOffExpiry => exact execHoldOffExpiry_effect s
  | barrierLimitExpiry => exact execBarrierLimitExpiry_effect s
  | idleSecond => exact execIdleSecond_effect s
  | stageLimitExpiry => exact execStageLimitExpiry_effect s
  | musterDoubleLimit => exact execMusterDoubleLimit_effect s
  | probeCurrentOn => exact execProbeCurrentOn_effect s
  | probeCurrentOff => exact execProbeCurrentOff_effect s
  | roundEnd => exact execRoundEnd_effect s
  | tokenPeriodStart d => exact execTokenPeriodStart_effect d s
  | clockAcquired d => exact ite_effect .clockFound
  | acquisitionTimeout d => exact ite_effect fun hx => .attemptFails (by rw [hx]; rfl)
  | searchSuccess d f1 f2 seed next => exact execSearchSuccess_effect d f1 f2 seed next s
  | searchTimeout d => exact ite_effect fun hx => .attemptFails (by rw [hx]; rfl)
  | tokenBlockEnd d m w => exact execTokenBlockEnd_effect d m w s
  | clockLoss d => exact execClockLoss_effect d s
  | retrainTimerExpiry d => exact execRetrainTimerExpiry_effect d s
  | settleDelayExpiry => exact execSettleDelayExpiry_effect s
  | comparedBit d received monitor => exact ⟨_, rfl, .compared d received monitor⟩
  | pointEnd b => exact ⟨_, rfl, .pointEnd⟩
  | lampBlinkToggle => exact ⟨_, rfl, .blink⟩
  | probeReferenceReading v => exact execProbeReferenceReading_effect v s
  | probeSample v => exact execProbeSample_effect v s

theorem exec_resetBegin (s : State) : exec .resetBegin s = .next s.resetBegun := rfl

theorem exec_resetEnd {s : State} (h : s.swc.station = .reset) (st : Straps) :
    exec (.resetEnd st) s = .next (s.resetEnded st) := if_pos h

theorem exec_resetEnd_outside {s : State} (h : s.swc.station ≠ .reset) (st : Straps) :
    exec (.resetEnd st) s = .next s := if_neg h

/-- Every command answers a next state: the start of a reset, the end of one, or an effect. -/
theorem exec_cases (c : Instr) (s : State) : ∃ t, exec c s = .next t ∧
    ((c = .resetBegin ∧ t = s.resetBegun) ∨
      (∃ st, c = .resetEnd st ∧ s.swc.station = .reset ∧ t = s.resetEnded st) ∨ s.Effect t) := by
  by_cases hb : c = .resetBegin
  · exact ⟨_, by rw [hb]; exact exec_resetBegin s, Or.inl ⟨hb, rfl⟩⟩
  · by_cases he : ∃ st, c = .resetEnd st
    · obtain ⟨st, rfl⟩ := he
      by_cases hs : s.swc.station = .reset
      · exact ⟨_, exec_resetEnd hs st, Or.inr (Or.inl ⟨st, rfl, hs, rfl⟩)⟩
      · exact ⟨_, exec_resetEnd_outside hs st, Or.inr (Or.inr .unchanged)⟩
    · obtain ⟨t, ht, h⟩ := exec_effect hb (fun st e => he ⟨st, e⟩) s
      exact ⟨t, ht, Or.inr (Or.inr h)⟩

/-- What holds of every state that exec_cases lists holds of the state a command leaves. -/
theorem exec_next_cases {c : Instr} {s t : State} (h : exec c s = .next t) :
    (c = .resetBegin ∧ t = s.resetBegun) ∨
      (∃ st, c = .resetEnd st ∧ s.swc.station = .reset ∧ t = s.resetEnded st) ∨ s.Effect t := by
  obtain ⟨t', ht, hc⟩ := exec_cases c s
  rw [h] at ht
  cases ht
  exact hc

end Sys2Proof.Machine
end

section
/-! SUPPORT. The control items of a station (identity, waiting commands, station state, parameters, halt reason and foreign-sweep
indication): the few ways in which a command changes them. -/
namespace Sys2Proof.Machine

/-- The items that the control invariants speak of. -/
structure Control where
  identity : Option Identity
  pending : List Instr
  station : StationState
  params : Params
  haltReason : HaltReason
  foreignSweep : Bool

def State.control (s : State) : Control :=
  { identity := s.identity, pending := s.pending, station := s.swc.station, params := s.swc.params
    haltReason := s.swc.haltReason, foreignSweep := s.swc.foreignSweep }

/-- How the control items may change in a command that neither starts nor ends a reset: a BEGIN is accepted (with or without a
halt in the same event), its tag is stored in BARRED, a halt is taken, the foreign-sweep indication changes in LISTEN, a stage
is entered, or DONE. -/
inductive ControlMove (k : Control) : Control → Prop
  | same : ControlMove k k
  | opened (f : BeginFields) (hs : k.station = .listen ∨ k.station = .done) :
      ControlMove k { k with station := .inStage .muster, params := Params.ofBegin f, haltReason := .none, foreignSweep := false }
  | openedHalted (f : BeginFields) (hs : k.station = .listen ∨ k.station = .done) :
      ControlMove k { k with
        station := .halted .muster, params := Params.ofBegin f, haltReason := .stopSeen, foreignSweep := false }
  | tagStored (tag : Byte) (hs : k.station = .barred) : ControlMove k { k with params := { k.params with tag := tag } }
  | halted {st : Stage} {why : HaltReason} (hs : k.station = .inStage st) (hw : why ≠ .none) :
      ControlMove k { k with station := .halted st, haltReason := if k.haltReason = .none then why else k.haltReason }
  | foreign (on : Bool) (hs : k.station = .listen) : ControlMove k { k with foreignSweep := on }
  | entered {st : Stage} (st' : Stage) (hs : k.station = .inStage st) : ControlMove k { k with station := .inStage st' }
  | done (hs : k.station = .inStage .report ∨ ∃ st, k.station = .halted st) : ControlMove k { k with station := .done }

namespace ControlMove

theorem identity {k k' : Control} (h : ControlMove k k') : k'.identity = k.identity := by cases h <;> rfl

theorem pending {k k' : Control} (h : ControlMove k k') : k'.pending = k.pending := by cases h <;> rfl

/-- BARRED is not left (R3). -/
theorem stays_barred {k k' : Control} (h : ControlMove k k') (hb : k.station = .barred) : k'.station = .barred := by
  cases h with
  | same | tagStored | foreign => exact hb
  | opened f hs | openedHalted f hs => simp [hb] at hs
  | halted hs | entered st' hs | done hs => simp [hb] at hs

end ControlMove

/-! ### What leaves the control items alone -/

namespace State

@[simp] theorem mapLif_control (f : Lif → Lif) (s : State) : (s.mapLif f).control = s.control := rfl
@[simp] theorem mapEmn_control (f : Emn → Emn) (s : State) : (s.mapEmn f).control = s.control := rfl
@[simp] theorem mapCfe_control (f : Cfe → Cfe) (s : State) : (s.mapCfe f).control = s.control := rfl
@[simp] theorem setSpu_control (x : Spu) (s : State) : (s.setSpu x).control = s.control := rfl
@[simp] theorem setPeers_control (ps : List PeerEntry) (s : State) : (s.setPeers ps).control = s.control := rfl
@[simp] theorem setFlags_control (f : StationFlags → StationFlags) (s : State) : (s.setFlags f).control = s.control := rfl
@[simp] theorem mapChan_control (c : Chan) (f : Channel → Channel) (s : State) : (s.mapChan c f).control = s.control := rfl
@[simp] theorem mapInUse_control (f : Chan → Channel → Channel) (s : State) : (s.mapInUse f).control = s.control := rfl
@[simp] theorem refreshLamps_control (s : State) : s.refreshLamps.control = s.control := rfl
@[simp] theorem release_control (s : State) : s.release.control = s.control := rfl
@[simp] theorem queueReports_control (s : State) : s.queueReports.control = s.control := rfl
@[simp] theorem markLimit_control (s : State) : s.markLimit.control = s.control := rfl
@[simp] theorem expireItems_control (st : Stage) (s : State) : (s.expireItems st).control = s.control := rfl
@[simp] theorem writeFindings_control (p : ProbeRound) (s : State) : (s.writeFindings p).control = s.control := rfl
@[simp] theorem takeNoToken_control (c : Chan) (s : State) : (s.takeNoToken c).control = s.control := rfl
@[simp] theorem tryRelease_control (s : State) : s.tryRelease.control = s.control := by simp [control]
@[simp] theorem finish_control (b s : State) : (finish b s).control = s.control := by simp [control]
@[simp] theorem arbitrate_control (s : State) : s.arbitrate.control = s.control := by simp [control]
@[simp] theorem failAttempt_control (c : Chan) (s : State) : (s.failAttempt c).control = s.control := by simp [control]
@[simp] theorem loseLock_control (c : Chan) (s : State) : (s.loseLock c).control = s.control := by simp [control]
@[simp] theorem takeBlock_control (c : Chan) (w : BitVec 32) (s : State) : (s.takeBlock c w).control = s.control := by
  simp [control]
@[simp] theorem takeLaneBit_control (c : Chan) (ref : BitVec 31) (b : Bool) (s : State) :
    (s.takeLaneBit c ref b).control = s.control := by
  simp [control]
@[simp] theorem takePoint_control (g : Grant) (b : Bool) (s : State) : (s.takePoint g b).control = s.control := by
  simp [control]

@[simp] theorem endPoint_control (s : State) : s.endPoint.control = s.control :=
  endPoint_of (fun t => t.control = s.control) rfl fun _ _ => takePoint_control _ _ s

@[simp] theorem endPointOf_control (c : Chan) (s : State) : (s.endPointOf c).control = s.control :=
  endPointOf_of c (fun t => t.control = s.control) rfl fun _ _ => takePoint_control _ _ s

@[simp] theorem takeCompared_control (c : Chan) (received monitor : Bool) (s : State) :
    (s.takeCompared c received monitor).control = s.control := by
  unfold takeCompared
  split
  · split <;> simp
  · rfl

/-! ### What changes them -/

theorem enterStage_control (st : Stage) (s : State) : (s.enterStage st).control = { s.control with station := .inStage st } := by
  simp [control, enterStage]

theorem haltIn_control (why : HaltReason) (st : Stage) (s : State) : (s.haltIn why st).control = { s.control with
    station := .halted st, haltReason := if s.swc.haltReason = .none then why else s.swc.haltReason } := by
  simp [control]

/-- R29: a halt is taken from a stage, or nothing happens. -/
theorem halt_moves {why : HaltReason} (hw : why ≠ .none) (s : State) : ControlMove s.control (s.halt why).control := by
  rcases s.halt_cases why with ⟨st, -, hs, e⟩ | ⟨e, -⟩ <;> rw [e]
  · rw [haltIn_control]
    exact .halted hs hw
  · exact .same

theorem haltIfStopAll_moves {why : HaltReason} (hw : why ≠ .none) (s : State) :
    ControlMove s.control (s.haltIfStopAll why).control := by
  rcases s.haltIfStopAll_cases why with ⟨-, e⟩ | ⟨-, e⟩ <;> rw [e]
  · exact halt_moves hw s
  · exact .same

theorem takeStopSeen_moves (s : State) : ControlMove s.control s.takeStopSeen.control :=
  haltIfStopAll_moves (s := s.setFlags _) (by decide)

theorem takeShortHigh_moves (s : State) : ControlMove s.control s.takeShortHigh.control :=
  haltIfStopAll_moves (s := s.mapLif _) (by decide)

theorem takeSlotConflict_moves (s : State) : ControlMove s.control s.takeSlotConflict.control := by
  unfold takeSlotConflict
  dsimp only
  split
  case h_4 => exact haltIfStopAll_moves (s := (s.setFlags _).mapLif _) (by decide)
  all_goals exact .same

theorem takeQualifiedLow_moves (s : State) : ControlMove s.control s.takeQualifiedLow.control := by
  unfold takeQualifiedLow
  split
  case h_7 =>
    split
    · exact takeStopSeen_moves s
    · exact .same
  all_goals exact .same

theorem noteTaggedFrame_moves (s : State) : ControlMove s.control s.noteTaggedFrame.control := by
  unfold noteTaggedFrame
  split
  · exact .foreign true ‹_›
  · exact .same

theorem takeCease_moves (tag : Byte) (s : State) : ControlMove s.control (s.takeCease tag).control := by
  unfold takeCease
  split
  · exact noteTaggedFrame_moves s
  · split
    · exact halt_moves (by decide) s
    · exact .same
  all_goals exact .same

theorem takePresent_moves (src : Byte) (f : PresentFields) (s : State) :
    ControlMove s.control (s.takePresent src f).control := by
  unfold takePresent
  split
  · exact noteTaggedFrame_moves s
  · split
    · exact .same
    · split
      · exact takeSlotConflict_moves s
      · exact .same
  · exact .same

theorem takeRecall_control (f : RecallFields) (s : State) : (s.takeRecall f).control = s.control := by
  unfold takeRecall
  split <;> rfl

/-- R17, R46: an accepted BEGIN opens a sweep, halted at once where the stop level stands qualified low under STOP_ALL. -/
theorem acceptBegin_moves {s : State} (hs : s.swc.station = .listen ∨ s.swc.station = .done) (f : BeginFields) :
    ControlMove s.control (s.acceptBegin f).control := by
  unfold acceptBegin
  dsimp only
  split
  · rw [takeStopSeen]
    rcases haltIfStopAll_cases .stopSeen ((s.openSweep f).refreshLamps.setFlags fun g => { g with stopSeen := true }) with
      ⟨-, e⟩ | ⟨-, e⟩ <;> rw [e]
    · rw [halt_of_stage (st := .muster) rfl (by decide), haltIn_control]
      exact .openedHalted f hs
    · exact .opened f hs
  · exact .opened f hs

theorem takeBegin_moves (f : BeginFields) (s : State) : ControlMove s.control (s.takeBegin f).control := by
  unfold takeBegin
  split
  · exact acceptBegin_moves (.inl ‹_›) f
  · exact acceptBegin_moves (.inr ‹_›) f
  · exact .tagStored f.tag ‹_›
  all_goals exact .same

/-- R22, R27, R32: once a frame's entry is removed the station may enter DONE from HALTED. -/
theorem afterRemoval_control (e : Entry) (s : State) : (s.afterRemoval e).control = s.control ∨
    (∃ st, s.swc.station = .halted st) ∧ (s.afterRemoval e).control = { s.control with station := .done } := by
  unfold afterRemoval
  split
  · rename_i st hs
    split
    · exact .inl rfl
    · split
      · exact .inr ⟨⟨st, hs⟩, rfl⟩
      · exact .inl rfl
  · exact .inl (tryRelease_control s)
  all_goals exact .inl rfl

theorem afterRemoval_moves (e : Entry) (s : State) : ControlMove s.control (s.afterRemoval e).control := by
  rcases s.afterRemoval_control e with h | ⟨hs, h⟩ <;> rw [h]
  · exact .same
  · exact .done (.inr hs)

theorem loseFrame_control (lf : LineFrame) (s : State) : (s.loseFrame lf).control = s.control ∨
    (∃ st, s.swc.station = .halted st) ∧ (s.loseFrame lf).control = { s.control with station := .done } := by
  unfold loseFrame
  dsimp only
  split
  · exact afterRemoval_control lf.entry ((s.mapCfe _).mapCfe _)
  · exact .inl rfl

theorem loseFrame_moves (lf : LineFrame) (s : State) : ControlMove s.control (s.loseFrame lf).control := by
  rcases s.loseFrame_control lf with h | ⟨hs, h⟩ <;> rw [h]
  · exact .same
  · exact .done (.inr hs)

/-- In DONE a slot conflict changes a flag and the lamps alone. -/
theorem takeSlotConflict_done {s : State} (h : s.swc.station = .done) : s.takeSlotConflict.control = s.control := by
  simp [takeSlotConflict, h]

/-- R173: a frame lost after its SRC byte may halt the station, or end HALTED with it. -/
theorem conflict_moves (lf : LineFrame) (s : State) : ControlMove s.control (s.loseFrame lf).takeSlotConflict.control := by
  rcases s.loseFrame_control lf with h | ⟨hs, h⟩
  · rw [← h]
    exact takeSlotConflict_moves _
  · rw [takeSlotConflict_done (congrArg Control.station h), h]
    exact .done (.inr hs)

/-- What any command but a reset's start or end does to the control items. -/
theorem Effect.control {s t : State} (h : s.Effect t) : ControlMove s.control t.control := by
  cases h with
  | beginTaken f => exact takeBegin_moves f (s.mapCfe _)
  | ceaseTaken tag => exact takeCease_moves tag (s.mapCfe _)
  | presentTaken src f => exact takePresent_moves src f (s.mapCfe _)
  | recallTaken f => rw [takeRecall_control]; exact .same
  | reportTaken => exact noteTaggedFrame_moves (s.mapCfe _)
  | frameSent f e => exact afterRemoval_moves e (s.mapCfe f)
  | frameLost lf => exact loseFrame_moves lf s
  | conflict lf => exact conflict_moves lf s
  | stopLow => exact takeQualifiedLow_moves (s.mapLif _)
  | nextStage hs hn hr => rw [enterStage_control]; exact .entered _ hs
  | sweepEnd hs | stallInReport hs => exact .done (.inl hs)
  | stall => exact halt_moves (s := (s.setFlags _).mapLif _) (by decide)
  | quiet f hs => exact .foreign false hs
  | roundShortHigh p x => rw [tryRelease_control]; exact takeShortHigh_moves ((s.writeFindings p).setSpu x)
  | unchanged | blink | delayEnd | delayIdle | line | frameEngine | probe | released => exact .same
  | queueLimit | itemLimit | doubleLimit | round | tokenPeriod | clockFound | attemptFails | searchSucceeds | markerSeen | block
  | markerMissed | blockMissed | framingLost | framingFails | lockLost | retrainHeld | retrain | compared | pointEnd =>
    simp [ControlMove.same]

end State
end Sys2Proof.Machine
end

section
/-! SUPPORT. The control invariants (R1, R3, R14, R15, R19, R30): every move of the control items keeps them. Settles O55 and O2. -/
namespace Sys2Proof.Machine

namespace Control

/-- IdentityWf and ControlWf as a property of the control items. -/
structure Wf (k : Control) : Prop where
  of_straps : ∀ id, k.identity = some id → ∃ st, id = Identity.ofStraps st
  barred_iff : k.station = .barred ↔ (k.identity.map Identity.barred).getD false = true
  params : k.params.Wf
  halted : ∀ st, k.station = .halted st → k.haltReason ≠ .none
  not_halted : k.station ≠ .done → (∀ st, k.station ≠ .halted st) → k.haltReason = .none
  foreign : k.foreignSweep = true → k.station = .listen

end Control

theorem State.control_wf_iff (s : State) : s.control.Wf ↔ s.IdentityWf ∧ s.ControlWf :=
  ⟨fun ⟨a, b, c, d, e, f⟩ => ⟨⟨a, b⟩, ⟨c, d, e, f⟩⟩, fun ⟨⟨a, b⟩, ⟨c, d, e, f⟩⟩ => ⟨a, b, c, d, e, f⟩⟩

/-- R19: a clamped value is in its range. -/
theorem clamp_range {lo hi : Nat} (h : lo ≤ hi) (x : Nat) : lo ≤ clamp lo hi x ∧ clamp lo hi x ≤ hi := by
  unfold clamp
  omega

theorem Params.ofBegin_wf (f : BeginFields) : (Params.ofBegin f).Wf where
  tSoak := clamp_range (by decide) _
  tStress := clamp_range (by decide) _
  p := clamp_range (by decide) _
  swing := clamp_range (by decide) _
  wMin := (clamp_range (by decide) _).2
  hMin := (clamp_range (by decide) _).2
  budget := clamp_range (by decide) _
  retrain := clamp_range (by decide) _
  muster := clamp_range (by decide) _
  identify := clamp_range (by decide) _
  soak := clamp_range (by decide) _
  stress := clamp_range (by decide) _
  report := clamp_range (by decide) _
  barrier := clamp_range (by decide) _

theorem Params.initial_wf : Params.initial.Wf := by constructor <;> decide

theorem Params.Wf.withTag {p : Params} (h : p.Wf) (tag : Byte) : ({ p with tag := tag } : Params).Wf :=
  ⟨h.tSoak, h.tStress, h.p, h.swing, h.wMin, h.hMin, h.budget, h.retrain, h.muster, h.identify, h.soak, h.stress, h.report,
    h.barrier⟩

/-- The halt reason that a halt leaves is one (R30). -/
theorem haltReason_kept {why r : HaltReason} (hw : why ≠ .none) : (if r = .none then why else r) ≠ .none := by
  split <;> assumption

namespace Control.Wf

/-- The items stay well formed when the station moves between states other than BARRED and LISTEN. -/
theorem moved {k : Control} (h : k.Wf) {x : StationState} {p : Params} {r : HaltReason} (hb : k.station ≠ .barred)
    (hx : x ≠ .barred) (hp : p.Wf) (hh : ∀ st, x = .halted st → r ≠ .none)
    (hn : x ≠ .done → (∀ st, x ≠ .halted st) → r = .none) :
    Wf { k with station := x, params := p, haltReason := r, foreignSweep := false } where
  of_straps := h.of_straps
  barred_iff := iff_of_false hx fun e => hb (h.barred_iff.2 e)
  params := hp
  halted := hh
  not_halted := hn
  foreign := fun e => by cases e

/-- The foreign-sweep indication is off outside LISTEN (R15). -/
theorem foreign_off {k : Control} (h : k.Wf) (hs : k.station ≠ .listen) : k.foreignSweep = false := by
  by_contra e
  exact hs (h.foreign (by simpa using e))

/-- Every move of the control items keeps them well formed. -/
theorem move {k k' : Control} (h : k.Wf) (m : ControlMove k k') : k'.Wf := by
  cases m with
  | same => exact h
  | opened f hs =>
    exact h.moved (by rcases hs with hs | hs <;> simp [hs]) (by simp) (Params.ofBegin_wf f) (by simp) (by simp)
  | openedHalted f hs =>
    exact h.moved (by rcases hs with hs | hs <;> simp [hs]) (by simp) (Params.ofBegin_wf f) (by simp) (by simp)
  | tagStored tag hs => exact { h with params := h.params.withTag tag }
  | @halted st why hs hw =>
    have e := h.moved (x := .halted st) (r := if k.haltReason = .none then why else k.haltReason) (by simp [hs]) (by simp)
      h.params (fun _ _ => haltReason_kept hw) (by simp)
    rwa [← h.foreign_off (by simp [hs])] at e
  | foreign on hs => exact { h with foreign := fun _ => hs }
  | entered st' hs =>
    have hr : k.haltReason = .none := h.not_halted (by simp [hs]) (by simp [hs])
    have e := h.moved (x := .inStage st') (by simp [hs]) (by simp) h.params (by simp) (fun _ _ => hr)
    rwa [← h.foreign_off (by simp [hs])] at e
  | done hs =>
    have hb : k.station ≠ .barred ∧ k.station ≠ .listen := by rcases hs with hs | ⟨st, hs⟩ <;> simp [hs]
    have e := h.moved (x := .done) (r := k.haltReason) hb.1 (by simp) h.params (by simp) (by simp)
    rwa [← h.foreign_off hb.2] at e

end Control.Wf

namespace State

/-- The start of a reset puts the control items at their reset values (R13). -/
theorem resetBegun_wf (s : State) : s.resetBegun.control.Wf where
  of_straps := fun id h => by cases h
  barred_iff := iff_of_false (fun h => by cases h) (fun h => by cases h)
  params := Params.initial_wf
  halted := fun st h => by cases h
  not_halted := fun _ _ => rfl
  foreign := fun h => by cases h

theorem resetEnded_station (st : Straps) (s : State) :
    (s.resetEnded st).swc.station = if (Identity.ofStraps st).barred then .barred else .listen := rfl

/-- R14: the end of a reset leaves the identity of the straps, and BARRED exactly for a barred one. -/
theorem resetEnded_wf {s : State} (h : s.control.Wf) (hs : s.swc.station = .reset) (st : Straps) :
    (s.resetEnded st).control.Wf where
  of_straps := fun id e => ⟨st, by cases e; rfl⟩
  barred_iff := by
    show (s.resetEnded st).swc.station = .barred ↔ (Identity.ofStraps st).barred = true
    rw [resetEnded_station]
    split <;> simp_all
  params := h.params
  halted := fun st' e => by
    change (s.resetEnded st).swc.station = _ at e
    rw [resetEnded_station] at e
    split at e <;> cases e
  not_halted := fun _ _ => h.not_halted (by simp [control, hs]) (by simp [control, hs])
  foreign := fun e => by
    change s.control.foreignSweep = true at e
    rw [h.foreign_off (by simp [control, hs])] at e
    cases e

end State
end Sys2Proof.Machine

namespace Sys2Proof.Proofs
open Sys2Proof.Machine

/-- Settles O55: the control items change by the moves of ControlMove alone, and each move keeps them well formed. -/
theorem controlKept : Obligations.ControlKept := by
  intro c s t hi hc ht
  have h : s.control.Wf := s.control_wf_iff.2 ⟨hi, hc⟩
  refine t.control_wf_iff.1 ?_
  rcases exec_next_cases ht with ⟨-, rfl⟩ | ⟨st, -, hs, rfl⟩ | e
  · exact s.resetBegun_wf
  · exact State.resetEnded_wf h hs st
  · exact h.move e.control

/-- Settles O2: every command answers a next state, and no move of the control items changes identity or waiting commands. -/
theorem identityHeldBetweenResets : Obligations.IdentityHeldBetweenResets := by
  intro c s
  obtain ⟨t, ht, ⟨hc, rfl⟩ | ⟨st, hc, hs, rfl⟩ | e⟩ := exec_cases c s
  · exact ⟨_, ht, rfl, fun hn => absurd hc hn⟩
  · exact ⟨_, ht, rfl, fun _ hn => absurd hc (hn hs st)⟩
  · exact ⟨t, ht, e.control.pending, fun _ _ => e.control.identity⟩

end Sys2Proof.Proofs
end

section
/-! SUPPORT. The identity at reset end, and the barred conditions (R1, R3, R14). Settles O4 and O5. -/
namespace Sys2Proof.Machine

namespace Identity

theorem barred_iff (id : Identity) :
    id.barred = true ↔ id.slots < 2 ∨ (id.topology = .star ∧ id.slots < 3) ∨ id.slots < id.slot := by
  simp [barred, or_assoc]

/-! ### A barred station has no port and no channel -/

theorem portCount_barred {id : Identity} (h : id.barred = true) : id.portCount = 0 := if_pos h

theorem keptPorts_barred {id : Identity} (h : id.barred = true) : id.keptPorts = 0 := by
  simp [keptPorts, portCount_barred h]

theorem truncatedPorts_barred {id : Identity} (h : id.barred = true) : id.truncatedPorts = 0 := by
  simp [truncatedPorts, portCount_barred h]

theorem peerSet_barred {id : Identity} (h : id.barred = true) : id.peerSet = [] := by
  simp [peerSet, portCount_barred h]

theorem inUse_barred {id : Identity} (h : id.barred = true) (c : Chan) : id.inUse c = false := by
  simp [inUse, keptPorts_barred h]

theorem expectedCount_barred {id : Identity} (h : id.barred = true) (q : Nat) : id.expectedCount q = 0 := by
  simp [expectedCount, keptPorts_barred h]

end Identity

theorem State.slotVerdict_barred {s : State} {id : Identity} (hi : s.identity = some id) (h : id.barred = true) :
    s.slotVerdict = .barred := by
  simp [State.slotVerdict, State.barred, hi, h]

/-- R158: the lamps that a reset end leaves: LAMP_FLT steady for a barred station, else both off. -/
theorem State.resetEnded_lamps {s : State} (hf : s.swc.foreignSweep = false) (st : Straps) :
    (s.resetEnded st).swc.lampOk = .off ∧
      (s.resetEnded st).swc.lampFlt = if (Identity.ofStraps st).barred then .steady else .off := by
  cases hb : (Identity.ofStraps st).barred <;>
    simp [State.resetEnded, State.refreshLamps, State.lampPatterns, State.mapSwc, State.mapLif, Lamp.take, hb, hf]

/-- R14: the whole state that a reset end leaves. -/
theorem State.resetEnded_outcome {s : State} (hf : s.swc.foreignSweep = false) (st : Straps) :
    s.resetEnded st =
      { s with identity := some (Identity.ofStraps st)
               swc := { s.swc with station := if (Identity.ofStraps st).barred then .barred else .listen
                                   lampOk := .off
                                   lampFlt := if (Identity.ofStraps st).barred then .steady else .off }
               lif := { s.lif with stopRun := .timing
                                   idleHigh := if s.lif.stepLine = .high then .running else .stopped } } := by
  obtain ⟨hok, hflt⟩ := State.resetEnded_lamps hf st
  rw [← hflt, ← hok]
  rfl

end Sys2Proof.Machine

namespace Sys2Proof.Proofs
open Sys2Proof.Machine

/-- Settles O4: the identity is that of the table of R1, and resetEnded_outcome gives the whole state. -/
theorem resetEndFormsIdentity : Obligations.ResetEndFormsIdentity := by
  intro st s hc hs
  have hf : s.swc.foreignSweep = false := by
    by_contra e
    have := hc.foreign (by simpa using e)
    simp [hs] at this
  refine ⟨Identity.ofStraps st, rfl, rfl, ?_, ?_, fun h => Nat.min_eq_left h, fun h => ?_, rfl, ?_⟩
  · cases h : st.topo <;> simp [Identity.ofStraps, h]
  · cases h : st.policy <;> simp [Identity.ofStraps, h]
  · simp [Identity.ofStraps, h]
  · rw [exec_resetEnd hs, State.resetEnded_outcome hf]

/-- Settles O5: a barred station has no port, and BARRED is entered by the reset end and not left by any move. -/
theorem barredConditions : Obligations.BarredConditions := by
  intro st id hid
  refine ⟨id.barred_iff, fun hb => ⟨Identity.portCount_barred hb, Identity.keptPorts_barred hb,
    Identity.truncatedPorts_barred hb, Identity.peerSet_barred hb, Identity.inUse_barred hb, Identity.expectedCount_barred hb,
    fun s hi => State.slotVerdict_barred hi hb, fun s hs => ?_, fun c s hc hi hs => ?_⟩, fun hb s hs => ?_⟩
  · exact ⟨_, exec_resetEnd hs st, by rw [State.resetEnded_station, ← hid, if_pos hb]⟩
  · obtain ⟨t, ht, ⟨hc', -⟩ | ⟨_, -, hs', -⟩ | e⟩ := exec_cases c s
    · exact absurd hc' hc
    · rw [hs] at hs'; cases hs'
    · exact ⟨t, ht, e.control.identity.trans hi, e.control.stays_barred hs⟩
  · exact ⟨_, exec_resetEnd hs st, by rw [State.resetEnded_station, ← hid, if_neg (by simp [hb])]⟩

end Sys2Proof.Proofs
end

section
/-! SUPPORT. The wiring rules (R4 to R12): ports, peers and far-end ports of the three roles, and the channels kept. Settles
O6 and O7. -/
namespace Sys2Proof.Machine

namespace Identity

/-- A legal identity (R1, R3). -/
structure Legal (id : Identity) : Prop where
  slot_pos : 1 ≤ id.slot
  slot_le : id.slot ≤ id.slots
  slots_ge : 2 ≤ id.slots
  slots_le : id.slots ≤ 16
  star_ge : id.topology = .star → 3 ≤ id.slots
  not_barred : id.barred = false

theorem ofStraps_legal {st : Straps} (h : (ofStraps st).barred = false) : (ofStraps st).Legal := by
  have hb : ¬ (ofStraps st).barred = true := by simp [h]
  rw [barred_iff, not_or, not_or, not_and] at hb
  obtain ⟨h1, h2, h3⟩ := hb
  exact {
    slot_pos := Nat.le_add_left _ _
    slot_le := by omega
    slots_ge := by omega
    slots_le := st.slots.isLt
    star_ge := fun e => by have := h2 e; omega
    not_barred := h }

/-- The station in another slot of the same slots is legal too. -/
theorem Legal.withSlot {id : Identity} (h : id.Legal) {q : Nat} (h1 : 1 ≤ q) (h2 : q ≤ id.slots) :
    ({ id with slot := q } : Identity).Legal where
  slot_pos := h1
  slot_le := h2
  slots_ge := h.slots_ge
  slots_le := h.slots_le
  star_ge := h.star_ge
  not_barred := by
    by_contra e
    rcases (barred_iff _).1 (by simpa using e) with e | ⟨e1, e2⟩ | e
    · exact absurd h.slots_ge (not_le.2 e)
    · exact absurd (h.star_ge e1) (not_le.2 e2)
    · exact absurd h2 (not_le.2 e)

/-! ### A mesh station (R5) -/

section Mesh
variable {id : Identity} (ht : id.topology = .mesh)
include ht

theorem portCount_mesh (h : id.Legal) : id.portCount = id.slots - 1 := by simp [portCount, h.not_barred, role, ht]

theorem portPeer_mesh (p : Nat) : id.portPeer p = if p + 1 < id.slot then p + 1 else p + 2 := by simp [portPeer, role, ht]

theorem farPort_mesh (p : Nat) : id.farPort p = if p + 1 < id.slot then id.slot - 2 else id.slot - 1 := by
  simp [farPort, role, ht]

end Mesh

/-! ### A node (R6) -/

section Node
variable {id : Identity} (ht : id.topology = .star) (hs : 3 ≤ id.slot)
include ht hs

theorem role_node : id.role = .node := by
  have : ¬ id.slot ≤ 2 := by omega
  simp [role, ht, this]

theorem portCount_node (h : id.Legal) : id.portCount = 2 := by simp [portCount, h.not_barred, role_node ht hs]

theorem portPeer_node (p : Nat) : id.portPeer p = p + 1 := by simp [portPeer, role_node ht hs]

theorem farPort_node (p : Nat) : id.farPort p = id.slot - 3 := by simp [farPort, role_node ht hs]

end Node

/-! ### A hub (R7) -/

section Hub
variable {id : Identity} (ht : id.topology = .star) (hs : id.slot ≤ 2)
include ht hs

theorem role_hub : id.role = .hub := by simp [role, ht, hs]

theorem portCount_hub (h : id.Legal) : id.portCount = id.slots - 1 := by simp [portCount, h.not_barred, role_hub ht hs]

theorem portPeer_hub (p : Nat) : id.portPeer p = if p = id.slots - 2 then 3 - id.slot else p + 3 := by
  simp [portPeer, role_hub ht hs]

theorem farPort_hub (p : Nat) : id.farPort p = if p = id.slots - 2 then id.slots - 2 else id.slot - 1 := by
  simp [farPort, role_hub ht hs]

end Hub

/-! ### Every role -/

/-- A station is a mesh station, a node or a hub (R1). -/
theorem role_cases (id : Identity) :
    id.topology = .mesh ∨ (id.topology = .star ∧ 3 ≤ id.slot) ∨ (id.topology = .star ∧ id.slot ≤ 2) := by
  cases id.topology with
  | mesh => exact .inl rfl
  | star =>
    by_cases h : id.slot ≤ 2
    · exact .inr (.inr ⟨rfl, h⟩)
    · exact .inr (.inl ⟨rfl, by omega⟩)

theorem Legal.portCount_range {id : Identity} (h : id.Legal) : 1 ≤ id.portCount ∧ id.portCount ≤ 15 := by
  have := h.slots_ge
  have := h.slots_le
  rcases id.role_cases with ht | ⟨ht, hs⟩ | ⟨ht, hs⟩
  · rw [portCount_mesh ht h]; omega
  · rw [portCount_node ht hs h]; omega
  · rw [portCount_hub ht hs h]; omega

/-- R5 to R7: a peer is another slot of the wiring rule. -/
theorem Legal.portPeer_range {id : Identity} (h : id.Legal) {p : Nat} (hp : p < id.portCount) :
    1 ≤ id.portPeer p ∧ id.portPeer p ≤ id.slots ∧ id.portPeer p ≠ id.slot := by
  have := h.slots_ge
  have := h.slot_le
  have := h.slot_pos
  rcases id.role_cases with ht | ⟨ht, hs⟩ | ⟨ht, hs⟩
  · rw [portCount_mesh ht h] at hp
    rw [portPeer_mesh ht]
    split <;> omega
  · rw [portCount_node ht hs h] at hp
    rw [portPeer_node ht hs]
    omega
  · have := h.star_ge ht
    rw [portCount_hub ht hs h] at hp
    rw [portPeer_hub ht hs]
    split <;> omega

/-- R5 to R7: two ports have two peers. -/
theorem Legal.portPeer_injective {id : Identity} (h : id.Legal) : Function.Injective id.portPeer := by
  intro p p' e
  rcases id.role_cases with ht | ⟨ht, hs⟩ | ⟨ht, hs⟩
  · rw [portPeer_mesh ht, portPeer_mesh ht] at e
    split at e <;> split at e <;> omega
  · rw [portPeer_node ht hs, portPeer_node ht hs] at e
    omega
  · have := h.slot_pos
    rw [portPeer_hub ht hs, portPeer_hub ht hs] at e
    split at e <;> split at e <;> omega

theorem Legal.peers_nodup {id : Identity} (h : id.Legal) (n : Nat) : ((List.range n).map id.portPeer).Nodup :=
  List.nodup_range.map h.portPeer_injective

theorem mem_peerSet (id : Identity) (q : Nat) : q ∈ id.peerSet ↔ ∃ p, p < id.portCount ∧ id.portPeer p = q := by
  simp [peerSet]

/-- R4 to R7: the peers of a node are the hubs; those of a mesh station or a hub are all other slots. -/
theorem Legal.mem_peerSet_iff {id : Identity} (h : id.Legal) (q : Nat) : q ∈ id.peerSet ↔
    if id.topology = .star ∧ 3 ≤ id.slot then q = 1 ∨ q = 2 else 1 ≤ q ∧ q ≤ id.slots ∧ q ≠ id.slot := by
  have hle := h.slot_le
  have hpos := h.slot_pos
  rw [mem_peerSet]
  rcases id.role_cases with ht | ⟨ht, hs⟩ | ⟨ht, hs⟩
  · rw [if_neg (by simp [ht])]
    constructor
    · rintro ⟨p, hp, rfl⟩
      exact h.portPeer_range hp
    · rintro ⟨h1, h2, h3⟩
      simp only [portCount_mesh ht h, portPeer_mesh ht]
      by_cases hq : q < id.slot
      · exact ⟨q - 1, by omega, by rw [if_pos (by omega)]; omega⟩
      · exact ⟨q - 2, by omega, by rw [if_neg (by omega)]; omega⟩
  · rw [if_pos ⟨ht, hs⟩]
    simp only [portCount_node ht hs h, portPeer_node ht hs]
    constructor
    · rintro ⟨p, hp, rfl⟩
      omega
    · rintro (rfl | rfl)
      · exact ⟨0, by omega, rfl⟩
      · exact ⟨1, by omega, rfl⟩
  · rw [if_neg (by rw [not_and]; omega)]
    constructor
    · rintro ⟨p, hp, rfl⟩
      exact h.portPeer_range hp
    · rintro ⟨h1, h2, h3⟩
      have := h.star_ge ht
      simp only [portCount_hub ht hs h, portPeer_hub ht hs]
      by_cases hq : q ≤ 2
      · exact ⟨id.slots - 2, by omega, by rw [if_pos rfl]; omega⟩
      · exact ⟨q - 3, by omega, by rw [if_neg (by omega)]; omega⟩

/-- R5 to R7: the far-end port is the port of the peer whose peer is this station, and the far end of that port is this one. -/
theorem Legal.far_agrees {id far : Identity} (h : id.Legal) {p : Nat} (hp : p < id.portCount)
    (hf : far = { id with slot := id.portPeer p }) :
    id.farPort p < far.portCount ∧ far.portPeer (id.farPort p) = id.slot ∧ far.farPort (id.farPort p) = p := by
  have hr := h.portPeer_range hp
  have hfar : far.Legal := by rw [hf]; exact h.withSlot hr.1 hr.2.1
  have hle := h.slot_le
  have hpos := h.slot_pos
  have hslot : far.slot = id.portPeer p := by rw [hf]
  have hslots : far.slots = id.slots := by rw [hf]
  have htop : far.topology = id.topology := by rw [hf]
  rcases id.role_cases with ht | ⟨ht, hs⟩ | ⟨ht, hs⟩
  · have ht' := htop.trans ht
    rw [portCount_mesh ht h] at hp
    rw [portPeer_mesh ht] at hslot
    rw [portCount_mesh ht' hfar, portPeer_mesh ht', farPort_mesh ht', farPort_mesh ht, hslots, hslot]
    by_cases hlt : p + 1 < id.slot
    · simp only [hlt, if_true]
      split <;> omega
    · simp only [hlt, if_false]
      split <;> omega
  · have ht' := htop.trans ht
    rw [portCount_node ht hs h] at hp
    rw [portPeer_node ht hs] at hslot
    have hs' : far.slot ≤ 2 := by omega
    rw [portCount_hub ht' hs' hfar, portPeer_hub ht' hs', farPort_hub ht' hs', farPort_node ht hs, hslots, hslot]
    rw [if_neg (by omega), if_neg (by omega)]
    omega
  · have ht' := htop.trans ht
    have hge := h.star_ge ht
    rw [portCount_hub ht hs h] at hp
    rw [portPeer_hub ht hs] at hslot
    by_cases hlast : p = id.slots - 2
    · rw [if_pos hlast] at hslot
      have hs' : far.slot ≤ 2 := by omega
      rw [portCount_hub ht' hs' hfar, portPeer_hub ht' hs', farPort_hub ht' hs', farPort_hub ht hs, if_pos hlast, hslots,
        if_pos rfl, if_pos rfl, hslot]
      omega
    · rw [if_neg hlast] at hslot
      have hs' : 3 ≤ far.slot := by omega
      rw [portCount_node ht' hs' hfar, portPeer_node ht' hs', farPort_node ht' hs', farPort_hub ht hs, if_neg hlast, hslot]
      omega

/-! ### Channels (R8 to R12) -/

theorem lanes_ofStraps (st : Straps) : (ofStraps st).lanes = 1 ∨ (ofStraps st).lanes = 2 ∨ (ofStraps st).lanes = 4 := by
  have h : (ofStraps st).widthCode ≤ 2 := Nat.min_le_right _ _
  unfold lanes
  have : (ofStraps st).widthCode = 0 ∨ (ofStraps st).widthCode = 1 ∨ (ofStraps st).widthCode = 2 := by omega
  rcases this with e | e | e <;> simp [e]

theorem portCount_le_15 (st : Straps) : (ofStraps st).portCount ≤ 15 := by
  cases h : (ofStraps st).barred with
  | true => rw [portCount_barred h]; omega
  | false => exact (ofStraps_legal h).portCount_range.2

theorem keptPorts_le (id : Identity) : id.keptPorts ≤ id.portCount := Nat.min_le_left _ _

/-- R9: a channel in use is one of a kept port. -/
theorem inUse_iff (id : Identity) (c : Chan) : id.inUse c = true ↔ c.val / id.lanes < id.keptPorts := by simp [inUse]

/-- A station with a channel in use is legal. -/
theorem legal_of_inUse {st : Straps} {c : Chan} (h : (ofStraps st).inUse c = true) : (ofStraps st).Legal := by
  refine ofStraps_legal ?_
  by_contra e
  rw [inUse_barred (by simpa using e)] at h
  cases h

/-- R12: a slot has its W lanes expected exactly if it is the peer of a kept port. -/
theorem expectedCount_eq (id : Identity) (q : Nat) :
    id.expectedCount q = if q ∈ (List.range id.keptPorts).map id.portPeer then id.lanes else 0 := by
  simp [expectedCount]

/-- R12: the sum over a list of the expected counts. -/
theorem sum_ite_mem (l S : List Nat) (w : Nat) :
    (l.map fun q => if q ∈ S then w else 0).sum = (l.filter (· ∈ S)).length * w := by
  induction l with
  | nil => simp
  | cons a l ih =>
    by_cases h : a ∈ S
    · simp [h, ih, Nat.add_mul, Nat.add_comm]
    · simp [h, ih]

/-- R12: the expected counts of all slots are the kept channels. -/
theorem Legal.expectedCount_sum {id : Identity} (h : id.Legal) :
    ((List.range 17).map id.expectedCount).sum = id.keptPorts * id.lanes := by
  have hnd := h.peers_nodup id.keptPorts
  have hperm : ((List.range 17).filter (· ∈ (List.range id.keptPorts).map id.portPeer)).Perm
      ((List.range id.keptPorts).map id.portPeer) := by
    refine (List.perm_ext_iff_of_nodup (List.nodup_range.filter _) hnd).2 fun q => ?_
    rw [List.mem_filter, decide_eq_true_eq, and_iff_right_iff_imp, List.mem_map]
    rintro ⟨p, hp, rfl⟩
    have := h.portPeer_range (lt_of_lt_of_le (List.mem_range.1 hp) id.keptPorts_le)
    have := h.slots_le
    exact List.mem_range.2 (by omega)
  rw [List.map_congr_left (fun q _ => id.expectedCount_eq q), sum_ite_mem, hperm.length_eq, List.length_map, List.length_range]

/-- The channels below n are n, up to the 32 there are. -/
theorem finRange_filter_length {n : Nat} (hn : n ≤ 32) {f : Chan → Bool} (hf : ∀ c, f c = true ↔ c.val < n) :
    ((List.finRange 32).filter f).length = n := by
  have e : f = fun c => decide (c.val < n) := funext fun c => by
    rw [Bool.eq_iff_iff, hf, decide_eq_true_eq]
  have hcard : (Finset.univ.filter fun c : Chan => c.val < n).card = min 32 n := Fin.card_filter_val_lt
  rw [e]
  exact hcard.trans (min_eq_right hn)

/-- R11: the ranges of the expected source of an in-use channel. -/
theorem Legal.expectedSource_range {id : Identity} (h : id.Legal) (hw : id.lanes = 1 ∨ id.lanes = 2 ∨ id.lanes = 4) {p : Nat}
    (hp : p < id.portCount) (k : Nat) : id.farPort p * id.lanes + k % id.lanes ≤ 59 := by
  have hfar := (h.far_agrees hp rfl).1
  have hr := h.portPeer_range hp
  have := (h.withSlot hr.1 hr.2.1).portCount_range.2
  rcases hw with e | e | e <;> rw [e] <;> omega

end Identity
end Sys2Proof.Machine

namespace Sys2Proof.Proofs
open Sys2Proof.Machine

/-- Settles O6, by the role of the station. -/
theorem portsOfEveryRole : Obligations.PortsOfEveryRole := by
  rintro st id rfl hb
  have h := Identity.ofStraps_legal hb
  have hle := h.slot_le
  have hpos := h.slot_pos
  refine ⟨fun ht => ⟨Identity.portCount_mesh ht h, fun p _ => ?_⟩, fun ht hs => ?_, fun ht hs => ?_, h.portCount_range.1,
    h.portCount_range.2, rfl, h.peers_nodup _, h.mem_peerSet_iff, fun p hp far hf => h.far_agrees hp hf⟩
  · rw [Identity.portPeer_mesh ht, Identity.farPort_mesh ht]
    split <;> omega
  · simp only [Identity.portCount_node ht hs h, Identity.portPeer_node ht hs, Identity.farPort_node ht hs]
    simp
  · have := h.star_ge ht
    simp only [Identity.portCount_hub ht hs h, Identity.portPeer_hub ht hs, Identity.farPort_hub ht hs, if_true, and_self, and_true,
      true_and]
    intro p hp
    rw [if_neg (by omega), if_neg (by omega)]
    simp

/-- Settles O7: W is 1, 2 or 4, and a kept port is one of those of O6. -/
theorem channelsAndExpectedSources : Obligations.ChannelsAndExpectedSources := by
  rintro st id rfl
  have hw := Identity.lanes_ofStraps st
  have hpc := Identity.portCount_le_15 st
  have hle := (Identity.ofStraps st).keptPorts_le
  have hbelow : ∀ c : Chan, (Identity.ofStraps st).inUse c = true ↔
      c.val < (Identity.ofStraps st).keptPorts * (Identity.ofStraps st).lanes := fun c => by
    rw [Identity.inUse_iff, Nat.div_lt_iff_lt_mul (by omega)]
  have h32 : (Identity.ofStraps st).keptPorts * (Identity.ofStraps st).lanes ≤ 32 := by
    unfold Identity.keptPorts
    rcases hw with e | e | e <;> rw [e] <;> omega
  have hmem : ∀ q, q ∈ (List.range (Identity.ofStraps st).keptPorts).map (Identity.ofStraps st).portPeer ↔
      ∃ p, p < (Identity.ofStraps st).keptPorts ∧ (Identity.ofStraps st).portPeer p = q := fun q => by simp
  refine ⟨fun h => ?_, fun h => ?_, ?_, Identity.inUse_iff _, hbelow, fun c hc => if_neg (by simp [hc]), fun c hc => ?_,
    fun q => ?_, fun q => ?_, ?_, h32, Identity.finRange_filter_length h32 hbelow⟩
  · unfold Identity.truncatedPorts Identity.keptPorts
    rcases hw with e | e | e <;> rw [e] at h ⊢ <;> omega
  · unfold Identity.truncatedPorts Identity.keptPorts
    rcases hw with e | e | e <;> rw [e] at h ⊢ <;> omega
  · unfold Identity.truncatedPorts Identity.keptPorts
    rcases hw with e | e | e <;> rw [e] <;> omega
  · have h := Identity.legal_of_inUse hc
    have hp := lt_of_lt_of_le ((Identity.inUse_iff _ c).1 hc) hle
    obtain ⟨h1, h2, h3⟩ := h.portPeer_range hp
    have he : (Identity.ofStraps st).expectedSource c = some _ := if_pos hc
    refine ⟨_, _, he, rfl, rfl, h1, h2.trans h.slots_le, h3, (Identity.mem_peerSet _ _).2 ⟨_, hp, rfl⟩,
      h.expectedSource_range hw hp _, ?_⟩
    simp [Identity.farTruncated, he]
  · rw [Identity.expectedCount_eq]
    exact ite_eq_or_eq _ _ _
  · rw [← hmem, Identity.expectedCount_eq]
    by_cases hq : q ∈ (List.range (Identity.ofStraps st).keptPorts).map (Identity.ofStraps st).portPeer
    · simp [hq]
    · rw [if_neg hq]
      exact iff_of_false (by omega) hq
  · cases hb : (Identity.ofStraps st).barred with
    | true =>
      rw [List.map_congr_left fun q _ => Identity.expectedCount_barred hb q]
      simp [Identity.keptPorts_barred hb]
    | false => exact (Identity.ofStraps_legal hb).expectedCount_sum

end Sys2Proof.Proofs
end

section
/-! SUPPORT. The receivers and the eye monitor, channel by channel (R85, R86, R95, R96, R134 to R152): what LanesWf and MonitorWf
ask of one record, of the monitor's requests for one channel, and of the monitor alone. -/
namespace Sys2Proof.Machine

/-! ### One receiver -/

/-- What LanesWf asks of the receive items of one channel, with the retrain budget. -/
structure Rx.Wf (budget : Nat) (x : Rx) : Prop where
  dead_iff : x.state = .dead ↔ x.retrainCount = budget + 1
  dead_flag : x.deadFlag = true ↔ x.state = .dead
  retrain_le : x.retrainCount ≤ budget + 1
  retrain_timer : x.retrainTimer.isRunning = true ↔ x.state = .retrainWait
  seeded : x.reference.isSome = x.state.following
  miss_le : x.missCount ≤ missLimit
  miss_lt : x.state.following = true → x.missCount < missLimit

namespace Rx.Wf

theorem initial (budget : Nat) : Rx.initial.Wf budget := by
  constructor <;> simp [Rx.initial, Timer.isRunning, RxState.following]

/-- A receiver that does not follow its lane holds no reference. -/
theorem unseeded {b : Nat} {x : Rx} (h : x.Wf b) (hf : x.state.following = false) : x.reference = none := by
  have := h.seeded
  rw [hf] at this
  simpa using this

/-- A receiver state that neither follows the lane nor waits out a retrain period nor is DEAD, with the timer and the reference
cleared. -/
theorem idle {b : Nat} {x : Rx} (h : x.Wf b) (hd : x.state ≠ .dead) {y : RxState}
    (hy : y = .off ∨ y = .acquiring ∨ y = .searching ∨ y = .held) :
    Rx.Wf b { x with state := y, retrainTimer := .stopped, reference := none } := by
  have hc : x.retrainCount ≠ b + 1 := fun e => hd (h.dead_iff.2 e)
  have hg : x.deadFlag = false := by by_contra e; exact hd (h.dead_flag.1 (by simpa using e))
  have := h.retrain_le
  have := h.miss_le
  rcases hy with rfl | rfl | rfl | rfl <;> constructor <;> simp_all [Timer.isRunning, RxState.following]

/-- The timer of a receiver that does not wait out a retrain period stands. -/
theorem timer_stopped {b : Nat} {x : Rx} (h : x.Wf b) (hw : x.state ≠ .retrainWait) : x.retrainTimer = .stopped := by
  cases ht : x.retrainTimer with
  | stopped => rfl
  | running us => exact absurd (h.retrain_timer.1 (by rw [ht]; rfl)) hw

theorem startAttempt {b : Nat} {x : Rx} (h : x.Wf b) (hd : x.state ≠ .dead) (hf : x.state.following = false) :
    x.startAttempt.Wf b := by
  have := h.idle hd (y := .acquiring) (by simp)
  rwa [← h.unseeded hf] at this

theorem toSearching {b : Nat} {x : Rx} (h : x.Wf b) (hx : x.state = .acquiring) :
    Rx.Wf b { x with state := .searching } := by
  have := h.idle (by simp [hx]) (y := .searching) (by simp)
  rwa [← h.unseeded (by rw [hx]; rfl), ← h.timer_stopped (by simp [hx])] at this

theorem toHeld {b : Nat} {x : Rx} (h : x.Wf b) (hx : x.state = .retrainWait) :
    Rx.Wf b { x with state := .held, retrainTimer := .stopped } := by
  have := h.idle (by simp [hx]) (y := .held) (by simp)
  rwa [← h.unseeded (by rw [hx]; rfl)] at this

theorem expire {b : Nat} {x : Rx} (h : x.Wf b) : x.expire.Wf b := by
  unfold Rx.expire
  split
  · rename_i ha
    have hx : x.state ≠ .dead ∧ x.state ≠ .retrainWait := by constructor <;> (intro e; rw [e] at ha; cases ha)
    have := h.idle hx.1 (y := .held) (by simp)
    rwa [← h.timer_stopped hx.2] at this
  · exact h

theorem stop {b : Nat} {x : Rx} (h : x.Wf b) : x.stop.Wf b := by
  unfold Rx.stop
  split
  · exact h
  · exact h.idle ‹_› (by simp)

theorem resume {b : Nat} {x : Rx} (h : x.Wf b) : x.resume.Wf b := by
  unfold Rx.resume
  split
  · rename_i hx
    exact h.startAttempt (by simp [hx]) (by rw [hx]; rfl)
  · exact h

/-- A receiver that follows its lane goes on following it. -/
theorem follow {b : Nat} {x : Rx} (h : x.Wf b) (hx : x.state.following = true) {y : RxState} (hy : y.following = true) :
    Rx.Wf b { x with state := y } := by
  have hd : x.state ≠ .dead ∧ y ≠ .dead ∧ x.state ≠ .retrainWait ∧ y ≠ .retrainWait := by
    refine ⟨?_, ?_, ?_, ?_⟩ <;> (rintro e; simp [e, RxState.following] at hx hy)
  obtain ⟨h1, h2, h3, h4, h5, h6, h7⟩ := h
  constructor <;> simp_all

theorem setMiss {b n : Nat} {x : Rx} (h : x.Wf b) (hn : n < missLimit) : Rx.Wf b { x with missCount := n } :=
  ⟨h.dead_iff, h.dead_flag, h.retrain_le, h.retrain_timer, h.seeded, Nat.le_of_lt hn, fun _ => hn⟩

theorem advance {b : Nat} {x : Rx} (h : x.Wf b) (hx : x.state.following = true) (ref : BitVec 31) :
    Rx.Wf b { x with reference := some ref } :=
  ⟨h.dead_iff, h.dead_flag, h.retrain_le, h.retrain_timer, hx.symm, h.miss_le, h.miss_lt⟩

theorem found {b : Nat} {x : Rx} (h : x.Wf b) (hx : x.state = .searching) (pol : Polarity) (flag : Bool) (ref : BitVec 31) :
    Rx.Wf b { x with state := .spotWait, polarity := pol, missCount := 0, reference := some ref, invertedFlag := flag } := by
  obtain ⟨h1, h2, h3, h4, h5, h6, h7⟩ := h
  constructor <;> simp_all [RxState.following, missLimit]

/-- R95, R96: a failure of a channel that is not DEAD. -/
theorem failedOnce {x : Rx} {p : Params} (h : x.Wf p.budget) (hd : x.state ≠ .dead) {n : Nat} (hn : n ≤ missLimit) :
    ({ x with missCount := n }.failedOnce p).Wf p.budget := by
  have hc : x.retrainCount ≠ p.budget + 1 := fun e => hd (h.dead_iff.2 e)
  have hle := h.retrain_le
  have hg : x.deadFlag = false := by by_contra e; exact hd (h.dead_flag.1 (by simpa using e))
  unfold Rx.failedOnce
  split <;> constructor <;> simp_all [Timer.isRunning, RxState.following] <;> omega

end Rx.Wf

/-- R95, R96: a failed receiver waits out the retrain period or is DEAD. -/
theorem Rx.failedOnce_state (p : Params) (x : Rx) :
    (x.failedOnce p).state = .retrainWait ∨ (x.failedOnce p).state = .dead := by
  unfold Rx.failedOnce
  split
  · exact .inl rfl
  · exact .inr rfl

/-! ### One record -/

/-- What LanesWf and MonitorWf ask of the record of one channel, in a station state. -/
structure Channel.LaneWf (station : StationState) (budget : Nat) (used : Bool) (r : Channel) : Prop where
  unused : used = false → r = Channel.initial
  rests : station.lanesRun = false → r.rx.state = .off ∨ r.rx.state = .dead
  works : station.lanesRun = true → used = true → r.rx.state ≠ .off
  rx : r.rx.Wf budget
  scan_locked : r.scan.state = .pending ∨ r.scan.state = .granted → r.rx.state = .locked
  scan_stage : r.scan.state = .awaitLock ∨ r.scan.state = .pending ∨ r.scan.state = .granted → station = .inStage .stress
  scan_idle : ∀ st, station = .inStage st → st ≠ .stress → st ≠ .report → r.scan.state = .idle

namespace Channel.LaneWf

variable {station : StationState} {budget : Nat} {used : Bool} {r r' : Channel}

/-- The place of an unused channel, in any station state. -/
theorem initial (station : StationState) (budget : Nat) : Channel.initial.LaneWf station budget false where
  unused := fun _ => rfl
  rests := fun _ => .inl rfl
  works := fun _ h => by cases h
  rx := Rx.Wf.initial budget
  scan_locked := fun h => by rcases h with h | h <;> cases h
  scan_stage := fun h => by rcases h with h | h | h <;> cases h
  scan_idle := fun _ _ _ _ => rfl

/-- The initial record, in a station state in which no lane runs. -/
theorem initial_resting (h : station.lanesRun = false) : Channel.initial.LaneWf station budget used :=
  { initial station budget with
    unused := fun _ => rfl
    works := fun e => by rw [h] at e; cases e }

/-- A receiver that is neither OFF nor DEAD is that of an in-use channel while lanes run. -/
theorem running (h : r.LaneWf station budget used) (ho : r.rx.state ≠ .off) (hd : r.rx.state ≠ .dead) :
    station.lanesRun = true ∧ used = true := by
  constructor
  · by_contra e
    rcases h.rests (by simpa using e) with e | e
    · exact ho e
    · exact hd e
  · by_contra e
    exact ho (by rw [h.unused (by simpa using e)]; rfl)

/-- A running receiver moves on, and the scan items stand. -/
theorem rx_step (h : r.LaneWf station budget used) (ho : r.rx.state ≠ .off) (hd : r.rx.state ≠ .dead)
    (hs : r'.scan = r.scan) (hx : r'.rx.state ≠ .off) (hw : r'.rx.Wf budget)
    (hl : r.rx.state = .locked → r'.rx.state = .locked) : r'.LaneWf station budget used := by
  obtain ⟨hrun, hu⟩ := h.running ho hd
  exact {
    unused := fun e => by rw [hu] at e; cases e
    rests := fun e => by rw [hrun] at e; cases e
    works := fun _ _ => hx
    rx := hw
    scan_locked := fun e => hl (h.scan_locked (by rwa [hs] at e))
    scan_stage := fun e => h.scan_stage (by rwa [hs] at e)
    scan_idle := fun st e1 e2 e3 => by rw [hs]; exact h.scan_idle st e1 e2 e3 }

/-- In STRESS the scan of a LOCKED receiver may be in any state. -/
theorem scan_step (h : r.LaneWf station budget used) (hk : r.scan.state = .pending ∨ r.scan.state = .granted)
    (hx : r'.rx = r.rx) : r'.LaneWf station budget used := by
  have hl := h.scan_locked hk
  have hst := h.scan_stage (.inr hk)
  obtain ⟨-, hu⟩ := h.running (by simp [hl]) (by simp [hl])
  exact {
    unused := fun e => by rw [hu] at e; cases e
    rests := by rw [hx]; exact h.rests
    works := by rw [hx]; exact h.works
    rx := by rw [hx]; exact h.rx
    scan_locked := fun _ => by rw [hx]; exact hl
    scan_stage := fun _ => hst
    scan_idle := fun st e1 e2 => by rw [hst] at e1; cases e1; exact absurd rfl e2 }

/-- A scan is neither waiting for the monitor nor measured unless its receiver is LOCKED. -/
theorem scan_free (h : r.LaneWf station budget used) (hl : r.rx.state ≠ .locked) :
    r.scan.state ≠ .pending ∧ r.scan.state ≠ .granted :=
  ⟨fun e => hl (h.scan_locked (.inl e)), fun e => hl (h.scan_locked (.inr e))⟩

/-- LaneWf reads the receive and scan items, and the whole record of an unused channel. -/
theorem congr (h : r.LaneWf station budget used) (hx : r'.rx = r.rx) (hs : r'.scan = r.scan) (hu : used = false → r' = r) :
    r'.LaneWf station budget used where
  unused := fun e => (hu e).trans (h.unused e)
  rests := by rw [hx]; exact h.rests
  works := by rw [hx]; exact h.works
  rx := by rw [hx]; exact h.rx
  scan_locked := by rw [hx, hs]; exact h.scan_locked
  scan_stage := by rw [hs]; exact h.scan_stage
  scan_idle := by rw [hs]; exact h.scan_idle

/-- In a station state in which no lane runs, whatever the stage, a record stands whose receiver rests and whose scan is not open. -/
theorem resting {station' : StationState} (h : r.LaneWf station budget used) (hr : station'.lanesRun = false)
    (hu : used = false → r' = r) (hx : r'.rx.state = .off ∨ r'.rx.state = .dead) (hw : r'.rx.Wf budget)
    (hs : r'.scan.state = .idle ∨ r'.scan.state = .settled)
    (hi : ∀ st, station' = .inStage st → st ≠ .report → r'.scan.state = .idle) : r'.LaneWf station' budget used where
  unused := fun e => (hu e).trans (h.unused e)
  rests := fun _ => hx
  works := fun e => by rw [hr] at e; cases e
  rx := hw
  scan_locked := fun e => by rcases hs with hs | hs <;> simp [hs] at e
  scan_stage := fun e => by rcases hs with hs | hs <;> simp [hs] at e
  scan_idle := fun st e1 _ e3 => hi st e1 e3

end Channel.LaneWf

/-! ### The monitor for one channel -/

/-- A SPOT of channel c is granted. -/
def Emn.SpotFor (m : Emn) (c : Chan) : Prop := ∃ g first, m.grant = some g ∧ g.channel = c ∧ g.procedure = .spot first

/-- A SCAN of channel c is granted. -/
def Emn.ScanFor (m : Emn) (c : Chan) : Prop := ∃ g st rd, m.grant = some g ∧ g.channel = c ∧ g.procedure = .scan st rd

/-- The monitor's requests and grant for channel c are exactly what its record asks. -/
structure Emn.Serves (m : Emn) (c : Chan) (r : Channel) : Prop where
  spot_pending : c ∈ m.spotPending ↔ r.rx.state = .spotWait
  spot_granted : m.SpotFor c ↔ r.rx.state = .spotRun
  scan_pending : c ∈ m.scanQueue ↔ r.scan.state = .pending
  scan_granted : m.ScanFor c ↔ r.scan.state = .granted

/-- The monitor holds neither a request nor a grant of channel c. -/
structure Emn.Ignores (m : Emn) (c : Chan) : Prop where
  spot : c ∉ m.spotPending
  scan : c ∉ m.scanQueue
  grant : ∀ g, m.grant = some g → g.channel ≠ c

/-- Two monitors hold the same requests and grant for channel d. -/
structure Emn.SameFor (m m' : Emn) (d : Chan) : Prop where
  spot : d ∈ m'.spotPending ↔ d ∈ m.spotPending
  scan : d ∈ m'.scanQueue ↔ d ∈ m.scanQueue
  grant : ∀ g, g.channel = d → (m'.grant = some g ↔ m.grant = some g)

namespace Emn

theorem initial_ignores (c : Chan) : Emn.initial.Ignores c where
  spot := List.not_mem_nil
  scan := List.not_mem_nil
  grant := fun _ h => by cases h

/-- A monitor that does not know the channel serves a record that asks nothing. -/
theorem Ignores.serves {m : Emn} {c : Chan} {r : Channel} (h : m.Ignores c) (hx : r.rx.state ≠ .spotWait ∧ r.rx.state ≠ .spotRun)
    (hs : r.scan.state ≠ .pending ∧ r.scan.state ≠ .granted) : m.Serves c r where
  spot_pending := iff_of_false h.spot hx.1
  spot_granted := iff_of_false (fun ⟨g, _, hg, hc, _⟩ => h.grant g hg hc) hx.2
  scan_pending := iff_of_false h.scan hs.1
  scan_granted := iff_of_false (fun ⟨g, _, _, hg, hc, _⟩ => h.grant g hg hc) hs.2

theorem Serves.no_spot {m : Emn} {c : Chan} {r : Channel} (h : m.Serves c r) (hx : r.rx.state ≠ .spotWait) :
    c ∉ m.spotPending := fun e => hx (h.spot_pending.1 e)

theorem Serves.no_scan {m : Emn} {c : Chan} {r : Channel} (h : m.Serves c r) (hs : r.scan.state ≠ .pending) :
    c ∉ m.scanQueue := fun e => hs (h.scan_pending.1 e)

/-- A monitor knows a channel only by what its record asks. -/
theorem Serves.ignores {m : Emn} {c : Chan} {r : Channel} (h : m.Serves c r) (hx : r.rx.state ≠ .spotWait ∧ r.rx.state ≠ .spotRun)
    (hs : r.scan.state ≠ .pending ∧ r.scan.state ≠ .granted) : m.Ignores c where
  spot := h.no_spot hx.1
  scan := h.no_scan hs.1
  grant := fun g hg hc => by
    cases hp : g.procedure with
    | spot first => exact hx.2 (h.spot_granted.1 ⟨g, first, hg, hc, hp⟩)
    | scan st rd => exact hs.2 (h.scan_granted.1 ⟨g, st, rd, hg, hc, hp⟩)

/-- Serves reads the receiver state and the scan state alone. -/
theorem Serves.congr {m : Emn} {c : Chan} {r r' : Channel} (h : m.Serves c r) (hx : r'.rx.state = r.rx.state)
    (hs : r'.scan.state = r.scan.state) : m.Serves c r' :=
  ⟨by rw [hx]; exact h.spot_pending, by rw [hx]; exact h.spot_granted, by rw [hs]; exact h.scan_pending,
    by rw [hs]; exact h.scan_granted⟩

theorem SameFor.serves {m m' : Emn} {d : Chan} {r : Channel} (h : m.SameFor m' d) (hs : m.Serves d r) : m'.Serves d r where
  spot_pending := h.spot.trans hs.spot_pending
  spot_granted := by
    rw [← hs.spot_granted]
    exact exists_congr fun g => exists_congr fun _ => ⟨fun ⟨a, b, c⟩ => ⟨(h.grant g b).1 a, b, c⟩,
      fun ⟨a, b, c⟩ => ⟨(h.grant g b).2 a, b, c⟩⟩
  scan_pending := h.scan.trans hs.scan_pending
  scan_granted := by
    rw [← hs.scan_granted]
    exact exists_congr fun g => exists_congr fun _ => exists_congr fun _ => ⟨fun ⟨a, b, c⟩ => ⟨(h.grant g b).1 a, b, c⟩,
      fun ⟨a, b, c⟩ => ⟨(h.grant g b).2 a, b, c⟩⟩

theorem SameFor.refl (m : Emn) (d : Chan) : m.SameFor m d := ⟨Iff.rfl, Iff.rfl, fun _ _ => Iff.rfl⟩

/-! ### The monitor alone -/

/-- What MonitorWf asks of the monitor alone, but for the grant decision. -/
structure Orderly (p : Nat) (m : Emn) : Prop where
  spot_order : m.spotPending.Pairwise (· < ·)
  scan_once : m.scanQueue.Nodup
  skip_le : m.skip ≤ skipLimit
  skip_zero : m.scanQueue = [] → m.skip = 0
  bits_le : ∀ g, m.grant = some g → g.bits ≤ 2 ^ p

/-- R151: a FREE monitor has nothing to grant. -/
def Decided (m : Emn) : Prop := m.grant = none → m.spotPending = [] ∧ m.scanQueue = []

theorem initial_orderly (p : Nat) : Emn.initial.Orderly p where
  spot_order := List.Pairwise.nil
  scan_once := List.nodup_nil
  skip_le := Nat.zero_le _
  skip_zero := fun _ => rfl
  bits_le := fun _ h => by cases h

theorem initial_decided : Emn.initial.Decided := fun _ => ⟨rfl, rfl⟩

namespace Orderly

variable {p : Nat} {m : Emn}

theorem spot_once (h : m.Orderly p) : m.spotPending.Nodup := h.spot_order.imp (fun h => ne_of_lt h)

/-- A grant ends or goes on with another point. -/
theorem setGrant (h : m.Orderly p) {g : Option Grant} (hg : ∀ x, g = some x → x.bits ≤ 2 ^ p) :
    Orderly p { m with grant := g } :=
  ⟨h.spot_order, h.scan_once, h.skip_le, h.skip_zero, hg⟩

theorem free (h : m.Orderly p) : m.free.Orderly p := h.setGrant fun _ e => by cases e

/-- The SCAN queue changes by setQueue (R152). -/
theorem setQueue (h : m.Orderly p) {q : List Chan} (hq : q.Nodup) : (m.setQueue q).Orderly p where
  spot_order := h.spot_order
  scan_once := hq
  skip_le := by
    simp only [Emn.setQueue]
    split
    · exact Nat.zero_le _
    · exact h.skip_le
  skip_zero := fun e => if_pos e
  bits_le := h.bits_le

end Orderly

/-- The grant that stays when the grant of channel c is dropped. -/
theorem withoutGrantOf_eq_some {m : Emn} {c : Chan} {g : Grant} :
    m.withoutGrantOf c = some g ↔ m.grant = some g ∧ g.channel ≠ c := by
  unfold withoutGrantOf
  cases hg : m.grant with
  | none => simp
  | some g' =>
    by_cases hc : g'.channel = c
    · simp only [hc, if_true, Option.some.injEq]
      exact iff_of_false (by simp) fun ⟨e, h⟩ => h (e ▸ hc)
    · simp only [hc, if_false, Option.some.injEq]
      exact ⟨fun e => ⟨e, e ▸ hc⟩, fun h => h.1⟩

theorem dropSpot_grant {m : Emn} {c : Chan} {g : Grant} : (m.dropSpot c).grant = some g ↔ m.grant = some g ∧ g.channel ≠ c :=
  withoutGrantOf_eq_some

theorem dropScan_grant {m : Emn} {c : Chan} {g : Grant} : (m.dropScan c).grant = some g ↔ m.grant = some g ∧ g.channel ≠ c :=
  withoutGrantOf_eq_some

/-- Once its grant has ended the monitor does not know a channel that has no request. -/
theorem free_ignores {m : Emn} {c : Chan} (hp : c ∉ m.spotPending) (hq : c ∉ m.scanQueue) : m.free.Ignores c where
  spot := hp
  scan := hq
  grant := fun _ e => by cases e

theorem Orderly.dropSpot {p : Nat} {m : Emn} (h : m.Orderly p) (c : Chan) : (m.dropSpot c).Orderly p where
  spot_order := h.spot_order.sublist List.erase_sublist
  scan_once := h.scan_once
  skip_le := h.skip_le
  skip_zero := h.skip_zero
  bits_le := fun g e => h.bits_le g (dropSpot_grant.1 e).1

theorem Orderly.dropScan {p : Nat} {m : Emn} (h : m.Orderly p) (c : Chan) : (m.dropScan c).Orderly p :=
  (h.setQueue (h.scan_once.erase c)).setGrant fun g e => h.bits_le g (dropScan_grant.1 e).1

theorem dropSpot_sameFor (m : Emn) {c d : Chan} (hd : d ≠ c) : m.SameFor (m.dropSpot c) d where
  spot := List.mem_erase_of_ne hd
  scan := Iff.rfl
  grant := fun _ e => dropSpot_grant.trans (and_iff_left (e ▸ hd))

theorem dropScan_sameFor (m : Emn) {c d : Chan} (hd : d ≠ c) : m.SameFor (m.dropScan c) d where
  spot := Iff.rfl
  scan := List.mem_erase_of_ne hd
  grant := fun _ e => dropScan_grant.trans (and_iff_left (e ▸ hd))

/-- R141: after its SPOT is dropped the monitor does not know a channel that has no SCAN request. -/
theorem dropSpot_ignores {p : Nat} {m : Emn} (h : m.Orderly p) {c : Chan} (hq : c ∉ m.scanQueue) : (m.dropSpot c).Ignores c where
  spot := h.spot_once.not_mem_erase
  scan := hq
  grant := fun _ e => (dropSpot_grant.1 e).2

/-- R147: after its SCAN is dropped the monitor does not know a channel that has no SPOT request. -/
theorem dropScan_ignores {p : Nat} {m : Emn} (h : m.Orderly p) {c : Chan} (hq : c ∉ m.spotPending) : (m.dropScan c).Ignores c where
  spot := hq
  scan := h.scan_once.not_mem_erase
  grant := fun _ e => (dropScan_grant.1 e).2

end Emn

/-! ### The pending SPOT set -/

theorem mem_addSpot (c d : Chan) (l : List Chan) : d ∈ addSpot c l ↔ d = c ∨ d ∈ l := by
  induction l with
  | nil => simp [addSpot]
  | cons e es ih =>
    unfold addSpot
    split
    · simp
    · split
      · rename_i h; subst h; simp
      · simp only [List.mem_cons, ih]; tauto

theorem addSpot_ordered (c : Chan) {l : List Chan} (h : l.Pairwise (· < ·)) : (addSpot c l).Pairwise (· < ·) := by
  induction l with
  | nil => simp [addSpot]
  | cons e es ih =>
    obtain ⟨he, hes⟩ := List.pairwise_cons.1 h
    unfold addSpot
    split
    · rename_i hlt
      refine List.pairwise_cons.2 ⟨fun x hx => ?_, h⟩
      rcases List.mem_cons.1 hx with rfl | hx
      · exact hlt
      · exact lt_trans hlt (he x hx)
    · split
      · exact h
      · rename_i h1 h2
        refine List.pairwise_cons.2 ⟨fun x hx => ?_, ih hes⟩
        rcases (mem_addSpot c x es).1 hx with rfl | hx
        · exact lt_of_le_of_ne (not_lt.1 h1) (Ne.symm h2)
        · exact he x hx

end Sys2Proof.Machine
end

section
/-! SUPPORT. The receivers and the eye monitor agree (LanesWf, MonitorWf): the invariant channel by channel, and the shared
operations that keep it. -/
namespace Sys2Proof.Machine

namespace State

/-- LanesWf and MonitorWf channel by channel, but for the grant decision. -/
structure LanesAgree (s : State) : Prop where
  lane : ∀ c, (s.chan c).LaneWf s.swc.station s.swc.params.budget (s.inUse c)
  serves : ∀ c, s.emn.Serves c (s.chan c)
  orderly : s.emn.Orderly s.swc.params.p

/-- LanesWf and MonitorWf channel by channel. -/
structure Arbitrated (s : State) : Prop extends s.LanesAgree where
  decided : s.emn.Decided

theorem arbitrated_iff (s : State) : s.Arbitrated ↔ s.LanesWf ∧ s.MonitorWf := by
  constructor
  · intro ⟨⟨hl, hs, ho⟩, hd⟩
    exact ⟨
      { unused := fun c => (hl c).unused
        rests := fun e c => (hl c).rests e
        works := fun e c => (hl c).works e
        dead_iff := fun c => (hl c).rx.dead_iff
        dead_flag := fun c => (hl c).rx.dead_flag
        retrain_le := fun c => (hl c).rx.retrain_le
        retrain_timer := fun c => (hl c).rx.retrain_timer
        seeded := fun c => (hl c).rx.seeded
        miss_le := fun c => (hl c).rx.miss_le
        miss_lt := fun c => (hl c).rx.miss_lt },
      { spot_pending := fun c => (hs c).spot_pending
        spot_granted := fun c => (hs c).spot_granted
        scan_pending := fun c => (hs c).scan_pending
        scan_granted := fun c => (hs c).scan_granted
        scan_locked := fun c => (hl c).scan_locked
        scan_stage := fun c => (hl c).scan_stage
        scan_idle := fun st c => (hl c).scan_idle st
        spot_order := ho.spot_order
        scan_once := ho.scan_once
        skip_le := ho.skip_le
        skip_zero := ho.skip_zero
        free_idle := hd
        bits_le := ho.bits_le }⟩
  · intro ⟨l, m⟩
    exact {
      lane := fun c =>
        { unused := l.unused c
          rests := fun e => l.rests e c
          works := fun e => l.works e c
          rx := ⟨l.dead_iff c, l.dead_flag c, l.retrain_le c, l.retrain_timer c, l.seeded c, l.miss_le c, l.miss_lt c⟩
          scan_locked := m.scan_locked c
          scan_stage := m.scan_stage c
          scan_idle := fun st => m.scan_idle st c }
      serves := fun c => ⟨m.spot_pending c, m.spot_granted c, m.scan_pending c, m.scan_granted c⟩
      orderly := ⟨m.spot_order, m.scan_once, m.skip_le, m.skip_zero, m.bits_le⟩
      decided := m.free_idle }

/-! ### What the invariant reads -/

/-- t has the lanes and the monitor of s, in the same station state. -/
structure SameLanes (s t : State) : Prop where
  identity : t.identity = s.identity
  station : t.swc.station = s.swc.station
  budget : t.swc.params.budget = s.swc.params.budget
  p : t.swc.params.p = s.swc.params.p
  emn : t.emn = s.emn
  rx : ∀ c, (t.chan c).rx = (s.chan c).rx
  scan : ∀ c, (t.chan c).scan = (s.chan c).scan
  unused : ∀ c, s.inUse c = false → t.chan c = s.chan c

theorem inUse_congr {s t : State} (h : t.identity = s.identity) (c : Chan) : t.inUse c = s.inUse c := by simp [inUse, h]

/-- t has the records and the monitor of s, in the same station state. -/
theorem SameLanes.of_records {s t : State} (h1 : t.identity = s.identity) (h2 : t.swc.station = s.swc.station)
    (h3 : t.swc.params = s.swc.params) (h4 : t.emn = s.emn) (h5 : ∀ c, t.chan c = s.chan c) : s.SameLanes t :=
  ⟨h1, h2, by rw [h3], by rw [h3], h4, fun c => by rw [h5], fun c => by rw [h5], fun c _ => h5 c⟩

theorem LanesAgree.congr {s t : State} (h : s.LanesAgree) (e : s.SameLanes t) : t.LanesAgree where
  lane := fun c => by
    rw [inUse_congr e.identity, e.station, e.budget]
    exact (h.lane c).congr (e.rx c) (e.scan c) (e.unused c)
  serves := fun c => by
    rw [e.emn]
    exact (h.serves c).congr (by rw [e.rx]) (by rw [e.scan])
  orderly := by rw [e.emn, e.p]; exact h.orderly

theorem Arbitrated.congr {s t : State} (h : s.Arbitrated) (e : s.SameLanes t) : t.Arbitrated :=
  { h.toLanesAgree.congr e with decided := by rw [e.emn]; exact h.decided }

/-! ### One record and the monitor change -/

theorem ChanAndMonitor.emn_eq {s t : State} {c : Chan} {r : Channel} {m : Emn} (h : s.ChanAndMonitor c r m t) : t.emn = m := by
  rw [h.1]

theorem ChanAndMonitor.same {s t : State} {c : Chan} {r : Channel} {m : Emn} (h : s.ChanAndMonitor c r m t) :
    t.identity = s.identity ∧ t.swc = s.swc := by
  rw [h.1]
  exact ⟨rfl, rfl⟩

/-- A change of one record is one after a change of the monitor. -/
theorem OnlyChan.withMonitor {s t : State} {c : Chan} {r : Channel} {f : Emn → Emn} (h : (s.mapEmn f).OnlyChan c r t) :
    s.ChanAndMonitor c r (f s.emn) t := ⟨h.1, h.2.1, h.2.2⟩

/-- A change of one record and the monitor is one after another change of them. -/
theorem ChanAndMonitor.after {s u t : State} {c : Chan} {r r' : Channel} {m m' : Emn} (h : s.ChanAndMonitor c r m u)
    (h' : u.ChanAndMonitor c r' m' t) : s.ChanAndMonitor c r' m' t :=
  ⟨by rw [h'.1, h.1], h'.2.1, fun d hd => (h'.2.2 d hd).trans (h.2.2 d hd)⟩

theorem mapEmn_mapChan_only (c : Chan) (f : Channel → Channel) (g : Emn → Emn) (s : State) :
    s.ChanAndMonitor c (f (s.chan c)) (g s.emn) ((s.mapEmn g).mapChan c f) := OnlyChan.withMonitor (mapChan_only c f _)

theorem mapChan_chanAndMonitor (c : Chan) (f : Channel → Channel) (s : State) :
    s.ChanAndMonitor c (f (s.chan c)) s.emn (s.mapChan c f) := mapChan_mapEmn_only c f id s

/-- The invariant is kept where one record and the monitor change together. -/
theorem LanesAgree.update {s t : State} (h : s.LanesAgree) {c : Chan} {r : Channel} {m : Emn} (ht : s.ChanAndMonitor c r m t)
    (hm : ∀ d, d ≠ c → s.emn.SameFor m d) (hl : r.LaneWf s.swc.station s.swc.params.budget (s.inUse c)) (hs : m.Serves c r)
    (ho : m.Orderly s.swc.params.p) : t.LanesAgree where
  lane := fun d => by
    rw [inUse_congr ht.same.1, ht.same.2]
    by_cases hd : d = c
    · rw [hd, ht.2.1]; exact hl
    · rw [ht.2.2 d hd]; exact h.lane d
  serves := fun d => by
    rw [ht.emn_eq]
    by_cases hd : d = c
    · rw [hd, ht.2.1]; exact hs
    · rw [ht.2.2 d hd]; exact (hm d hd).serves (h.serves d)
  orderly := by rw [ht.emn_eq, ht.same.2]; exact ho

/-- The invariant is kept where one record changes and the monitor stands. -/
theorem Arbitrated.updateChan {s : State} (h : s.Arbitrated) {c : Chan} {f : Channel → Channel}
    (hl : (f (s.chan c)).LaneWf s.swc.station s.swc.params.budget (s.inUse c)) (hs : s.emn.Serves c (f (s.chan c))) :
    (s.mapChan c f).Arbitrated :=
  { h.toLanesAgree.update (mapChan_chanAndMonitor c f s) (fun d _ => Emn.SameFor.refl _ d) hl hs h.orderly with
    decided := h.decided }

/-! ### The grant decision (R151, R152) -/

/-- A SPOT is granted to the lowest channel that waits for one. -/
theorem LanesAgree.grantSpot {s : State} (h : s.LanesAgree) {c : Chan} {cs : List Chan} (hg : s.emn.grant = none)
    (hp : s.emn.spotPending = c :: cs) (hk : s.emn.skip < skipLimit) :
    LanesAgree ((s.mapEmn fun m => { m with
        grant := some (grantAt c (.spot none) spotFirstPoint), spotPending := cs
        skip := if s.emn.scanQueue = [] then m.skip else m.skip + 1 }).mapChan c
      fun r => { r with rx := { r.rx with state := .spotRun } }) := by
  have hx : (s.chan c).rx.state = .spotWait := (h.serves c).spot_pending.1 (by simp [hp])
  have hscan := (h.lane c).scan_free (by simp [hx])
  obtain ⟨hmin, hcs⟩ := List.pairwise_cons.1 (hp ▸ h.orderly.spot_order)
  refine h.update (mapEmn_mapChan_only c _ _ s) (fun d hd => ⟨by simp [hp, hd], Iff.rfl, fun g hgd => ?_⟩) ?_ ?_ ?_
  · refine iff_of_false (fun e => hd ?_) (by simp [hg])
    cases e; exact hgd.symm
  · exact (h.lane c).rx_step (by simp [hx]) (by simp [hx]) rfl (by simp)
      ((h.lane c).rx.follow (by rw [hx]; rfl) rfl) (by simp [hx])
  · exact {
      spot_pending := iff_of_false (fun e => lt_irrefl c (hmin c e)) (by simp)
      spot_granted := iff_of_true ⟨_, _, rfl, rfl, rfl⟩ rfl
      scan_pending := (h.serves c).scan_pending
      scan_granted := iff_of_false (by rintro ⟨g, st, rd, e, -, hpr⟩; cases e; cases hpr) hscan.2 }
  · exact {
      spot_order := hcs
      scan_once := h.orderly.scan_once
      skip_le := by dsimp only; split <;> omega
      skip_zero := fun e => by
        change s.emn.scanQueue = [] at e
        dsimp only
        rw [if_pos e]; exact h.orderly.skip_zero e
      bits_le := fun g e => by cases e; exact Nat.zero_le _ }

/-- A SCAN is granted to the channel that has waited longest for one. -/
theorem LanesAgree.grantScan {s : State} (h : s.LanesAgree) {c : Chan} {cs : List Chan} (hg : s.emn.grant = none)
    (hq : s.emn.scanQueue = c :: cs) :
    LanesAgree ((s.mapEmn fun m => { m with
        grant := some (grantAt c (.scan .origin .none) scanOrigin), scanQueue := cs, skip := 0 }).mapChan c
      fun r => { r with scan := { r.scan with state := .granted, attempts := r.scan.attempts + 1 } }) := by
  have hsc : (s.chan c).scan.state = .pending := (h.serves c).scan_pending.1 (by simp [hq])
  have hx : (s.chan c).rx.state = .locked := (h.lane c).scan_locked (.inl hsc)
  obtain ⟨hcs, hnd⟩ := List.nodup_cons.1 (hq ▸ h.orderly.scan_once)
  refine h.update (mapEmn_mapChan_only c _ _ s) (fun d hd => ⟨Iff.rfl, by simp [hq, hd], fun g hgd => ?_⟩) ?_ ?_ ?_
  · refine iff_of_false (fun e => hd ?_) (by simp [hg])
    cases e; exact hgd.symm
  · exact (h.lane c).scan_step (.inl hsc) rfl
  · exact {
      spot_pending := (h.serves c).spot_pending
      spot_granted := iff_of_false (by rintro ⟨g, first, e, -, hpr⟩; cases e; cases hpr) (by simp [hx])
      scan_pending := iff_of_false hcs (by simp)
      scan_granted := iff_of_true ⟨_, _, _, rfl, rfl, rfl⟩ rfl }
  · exact {
      spot_order := h.orderly.spot_order
      scan_once := hnd
      skip_le := Nat.zero_le _
      skip_zero := fun _ => rfl
      bits_le := fun g e => by cases e; exact Nat.zero_le _ }

/-- R151, R152: a grant stands after a decision for which a request may be granted. -/
theorem arbitrate_grants {s : State}
    (h : s.emn.spotPending ≠ [] ∧ s.emn.skip < skipLimit ∨ s.emn.scanQueue ≠ []) : s.arbitrate.emn.grant ≠ none := by
  cases hg : s.emn.grant with
  | some g => simp [arbitrate, hg]
  | none =>
    rw [arbitrate, hg]
    dsimp only
    split
    · simp
    · simp
    · cases hp : s.emn.spotPending <;> simp_all

/-- After a grant decision a FREE monitor has nothing to grant. -/
theorem arbitrate_decided {s : State} {p : Nat} (h : s.emn.Orderly p) : s.arbitrate.emn.Decided := by
  intro hg
  have hq : s.emn.scanQueue = [] := by
    by_contra e
    exact arbitrate_grants (.inr e) hg
  have hp : s.emn.spotPending = [] := by
    by_contra e
    exact arbitrate_grants (.inl ⟨e, by rw [h.skip_zero hq]; decide⟩) hg
  rcases s.arbitrate_cases with e | ⟨c, cs, -, hp', -⟩ | ⟨c, cs, -, hq', -⟩
  · rw [e]; exact ⟨hp, hq⟩
  · rw [hp] at hp'; cases hp'
  · rw [hq] at hq'; cases hq'

/-- A grant decision completes the invariant. -/
theorem LanesAgree.arbitrate {s : State} (h : s.LanesAgree) : s.arbitrate.Arbitrated where
  toLanesAgree := by
    rcases s.arbitrate_cases with e | ⟨c, cs, hg, hp, hk, e⟩ | ⟨c, cs, hg, hq, -, e⟩ <;> rw [e]
    · exact h
    · exact h.grantSpot hg hp hk
    · exact h.grantScan hg hq
  decided := arbitrate_decided h.orderly

/-! ### The close of an event, and what leaves the lanes alone -/

theorem SameLanes.tryRelease (s : State) : s.SameLanes s.tryRelease :=
  .of_records (by simp) (by simp) (by simp) (by simp) (by simp)

theorem SameLanes.finish (b s : State) : s.SameLanes (finish b s) where
  identity := by simp
  station := by simp
  budget := by simp
  p := by simp
  emn := by simp
  rx := by simp
  scan := by simp
  unused := fun c hc => by
    rcases finish_cases b s with h | ⟨h, -⟩ <;> rw [h, tryRelease_chan]
    rw [completeIdentify_chan, markDuplicates, mapInUse_chan_unused hc]

theorem Arbitrated.tryRelease {s : State} (h : s.Arbitrated) : s.tryRelease.Arbitrated := h.congr (.tryRelease s)

theorem Arbitrated.finish {s : State} (h : s.Arbitrated) (b : State) : (finish b s).Arbitrated := h.congr (.finish b s)

/-- A change of the in-use records that leaves receive and scan items alone. -/
theorem SameLanes.mapInUse {f : Chan → Channel → Channel} (hx : ∀ c r, (f c r).rx = r.rx) (hs : ∀ c r, (f c r).scan = r.scan)
    (s : State) : s.SameLanes (s.mapInUse f) where
  identity := rfl
  station := rfl
  budget := rfl
  p := rfl
  emn := rfl
  rx := fun c => by rw [mapInUse_chan]; split <;> simp [hx]
  scan := fun c => by rw [mapInUse_chan]; split <;> simp [hs]
  unused := fun c hc => mapInUse_chan_unused hc f

/-- A change of the record of a channel in use that leaves receive and scan items alone. -/
theorem SameLanes.mapChan {c : Chan} {f : Channel → Channel} {s : State} (hx : (f (s.chan c)).rx = (s.chan c).rx)
    (hs : (f (s.chan c)).scan = (s.chan c).scan) (hu : s.inUse c = true) : s.SameLanes (s.mapChan c f) where
  identity := rfl
  station := rfl
  budget := rfl
  p := rfl
  emn := rfl
  rx := fun d => by rw [mapChan_chan]; split <;> simp_all
  scan := fun d => by rw [mapChan_chan]; split <;> simp_all
  unused := fun d hd => mapChan_chan_other (fun e => by rw [e, hu] at hd; cases hd) f s

/-! ### Every record at once -/

/-- A fresh part: every record and the monitor at their initial values, in a station state in which no lane runs. -/
theorem Arbitrated.fresh {s : State} (hc : ∀ c, s.chan c = Channel.initial) (hm : s.emn = Emn.initial)
    (hr : s.swc.station.lanesRun = false) : s.Arbitrated where
  lane := fun c => by rw [hc]; exact .initial_resting hr
  serves := fun c => by rw [hc, hm]; exact (Emn.initial_ignores c).serves (by decide) (by decide)
  orderly := by rw [hm]; exact Emn.initial_orderly _
  decided := by rw [hm]; exact Emn.initial_decided

/-- The in-use records change, with the station state or the monitor; the parameters stand. -/
theorem LanesAgree.updateUsed {s t : State} (h : s.LanesAgree) (hi : t.identity = s.identity) (hp : t.swc.params = s.swc.params)
    (hu : ∀ c, s.inUse c = true → (t.chan c).LaneWf t.swc.station s.swc.params.budget true ∧ t.emn.Serves c (t.chan c))
    (hn : ∀ c, s.inUse c = false → t.chan c = s.chan c)
    (hs : ∀ c, s.inUse c = false → s.emn.SameFor t.emn c ∨ t.emn.Ignores c) (ho : t.emn.Orderly s.swc.params.p) :
    t.LanesAgree where
  lane := fun c => by
    rw [inUse_congr hi, hp]
    cases hc : s.inUse c with
    | true => exact (hu c hc).1
    | false => rw [hn c hc, (h.lane c).unused hc]; exact .initial _ _
  serves := fun c => by
    cases hc : s.inUse c with
    | true => exact (hu c hc).2
    | false =>
      rw [hn c hc]
      rcases hs c hc with e | e
      · exact e.serves (h.serves c)
      · rw [(h.lane c).unused hc]; exact e.serves (by decide) (by decide)
  orderly := by rw [hp]; exact ho

end State
end Sys2Proof.Machine
end

section
/-! SUPPORT. Halts, DONE, stage entries and limits keep the invariant of the lanes and the monitor. -/
namespace Sys2Proof.Machine

/-! ### Receivers and scans at stage edges -/

theorem Rx.stop_rests (x : Rx) : x.stop.state = .off ∨ x.stop.state = .dead := by
  unfold Rx.stop
  split
  · exact .inr ‹_›
  · exact .inl rfl

/-- R98: only a HELD receiver starts an attempt at a stage entry. -/
theorem Rx.resume_state (x : Rx) : x.resume.state = if x.state = .held then .acquiring else x.state := by
  unfold Rx.resume
  split <;> simp_all [Rx.startAttempt]

/-- A stage entry leaves every receiver state but HELD, and makes none but ACQUIRING. -/
theorem Rx.resume_state_iff {x : Rx} {y : RxState} (h1 : y ≠ .held) (h2 : y ≠ .acquiring) : x.resume.state = y ↔ x.state = y := by
  rw [Rx.resume_state]
  split
  · rename_i e
    rw [e]
    exact iff_of_false (Ne.symm h2) (Ne.symm h1)
  · exact Iff.rfl

/-- R99: the stage limit holds back a receiver whose attempt is in flight. -/
theorem Rx.expire_state (x : Rx) : x.expire.state = if x.state.attempting then .held else x.state := by
  unfold Rx.expire
  split <;> rfl

/-- R149: the stage limit settles an open scan. -/
theorem Scan.expire_state (k : Scan) : k.expire.state = if k.state = .idle then .idle else .settled := by
  unfold Scan.expire
  split <;> simp_all [Scan.settle]

/-- R150: a halt settles a scan. -/
theorem Scan.halt_state (k : Scan) : k.halt.state = .settled := by
  unfold Scan.halt
  split <;> simp_all [Scan.settle]

/-- R142: STRESS entry raises the request of a channel that is LOCKED. -/
theorem Scan.enter_pending (x : RxState) (k : Scan) : (k.enter x).state = .pending ↔ x = .locked := by
  cases x <;> simp [Scan.enter, Scan.settle]

theorem Scan.enter_not_granted (x : RxState) (k : Scan) : (k.enter x).state ≠ .granted := by
  cases x <;> simp [Scan.enter, Scan.settle]

namespace Channel.LaneWf

variable {station station' : StationState} {budget : Nat} {used : Bool} {r r' : Channel}

/-- Outside STRESS no scan is open. -/
theorem scan_rests (h : r.LaneWf station budget used) (hs : station ≠ .inStage .stress) :
    r.scan.state = .idle ∨ r.scan.state = .settled := by
  cases hc : r.scan.state with
  | idle => exact .inl rfl
  | settled => exact .inr rfl
  | awaitLock => exact absurd (h.scan_stage (.inl hc)) hs
  | pending => exact absurd (h.scan_stage (.inr (.inl hc))) hs
  | granted => exact absurd (h.scan_stage (.inr (.inr hc))) hs

/-- The record of an in-use channel as a stage in which lanes run is entered, before any scan. -/
theorem entered (hw : r'.rx.Wf budget) (hr : station'.lanesRun = true) (ho : r'.rx.state ≠ .off)
    (hs : r'.scan.state = .idle) : r'.LaneWf station' budget true where
  unused := fun e => by cases e
  rests := fun e => by rw [hr] at e; cases e
  works := fun _ _ => ho
  rx := hw
  scan_locked := fun e => by simp [hs] at e
  scan_stage := fun e => by simp [hs] at e
  scan_idle := fun _ _ _ _ => hs

/-- R142: the record of an in-use channel as STRESS is entered. -/
theorem enterStress (h : r.LaneWf (.inStage .soak) budget true) (p : Params) :
    (r.enterStress p).LaneWf (.inStage .stress) budget true where
  unused := fun e => by cases e
  rests := fun e => by cases e
  works := fun _ _ e => h.works rfl rfl ((Rx.resume_state_iff (by simp) (by simp)).1 e)
  rx := h.rx.resume
  scan_locked := fun e => by
    have hl : r.rx.state = .locked :=
      (Scan.enter_pending _ _).1 (e.resolve_right (Scan.enter_not_granted _ _))
    exact (Rx.resume_state_iff (by simp) (by simp)).2 hl
  scan_stage := fun _ => rfl
  scan_idle := fun st e1 e2 => by cases e1; exact absurd rfl e2

/-- R99, R149: the limit of a stage. -/
theorem expired (h : r.LaneWf station budget used) (hu : used = true) (hx : r'.rx = r.rx.expire) (hs : r'.scan = r.scan.expire) :
    r'.LaneWf station budget used where
  unused := fun e => by rw [hu] at e; cases e
  rests := fun e => by
    rw [hx, Rx.expire_state]
    rcases h.rests e with e | e <;> simp [e, RxState.attempting]
  works := fun e1 e2 => by
    have := h.works e1 e2
    rw [hx, Rx.expire_state]
    split <;> simp_all
  rx := by rw [hx]; exact h.rx.expire
  scan_locked := fun e => by
    rw [hs, Scan.expire_state] at e
    split at e <;> simp at e
  scan_stage := fun e => by
    rw [hs, Scan.expire_state] at e
    split at e <;> simp at e
  scan_idle := fun st e1 e2 e3 => by
    rw [hs, Scan.expire_state, if_pos (h.scan_idle st e1 e2 e3)]

end Channel.LaneWf

namespace State

/-- A station that is not in IDENTIFY, SOAK or STRESS is not in STRESS. -/
theorem not_stress_of_resting {x : StationState} (h : x.lanesRun = false) : x ≠ .inStage .stress := by
  rintro rfl
  cases h

/-- The station moves between two states in which no lane runs, and the records and the monitor stand. -/
theorem Arbitrated.rest {s t : State} (h : s.Arbitrated) (hs : s.swc.station.lanesRun = false)
    (ht : t.swc.station.lanesRun = false) (h1 : t.identity = s.identity) (h2 : t.swc.params = s.swc.params)
    (h3 : t.emn = s.emn) (h4 : ∀ c, t.chan c = s.chan c)
    (hi : ∀ st, t.swc.station = .inStage st → st ≠ .report → ∀ c, (s.chan c).scan.state = .idle) : t.Arbitrated where
  lane := fun c => by
    rw [inUse_congr h1, h2, h4]
    exact (h.lane c).resting ht (fun _ => rfl) ((h.lane c).rests hs) (h.lane c).rx
      ((h.lane c).scan_rests (not_stress_of_resting hs)) fun st e1 e2 => hi st e1 e2 c
  serves := fun c => by rw [h3, h4]; exact h.serves c
  orderly := by rw [h2, h3]; exact h.orderly
  decided := by rw [h3]; exact h.decided

/-- R34: DONE is entered from a state in which no lane runs. -/
theorem Arbitrated.enterDone {s : State} (h : s.Arbitrated) (hs : s.swc.station.lanesRun = false) : s.enterDone.Arbitrated :=
  h.rest hs rfl rfl rfl rfl (fun _ => rfl) fun _ e => by cases e

/-! ### Halts -/

theorem Arbitrated.haltIn {s : State} (h : s.Arbitrated) (why : HaltReason) (st : Stage) : (s.haltIn why st).Arbitrated where
  toLanesAgree := by
    refine h.toLanesAgree.updateUsed (by simp) (by simp) (fun c hc => ?_) (fun c hc => by simp [hc])
      (fun c _ => .inr (by rw [haltIn_emn]; exact Emn.initial_ignores c)) (by rw [haltIn_emn]; exact Emn.initial_orderly _)
    have hl := h.lane c
    have hx := Rx.stop_rests (s.chan c).rx
    have hs : (s.chan c).haltRecord.scan.state = .settled := Scan.halt_state _
    rw [hc] at hl
    rw [haltIn_chan, if_pos hc, haltIn_emn, haltIn_swc]
    refine ⟨hl.resting rfl (fun e => by cases e) hx hl.rx.stop (.inr hs) (fun _ e => by cases e), ?_⟩
    refine (Emn.initial_ignores c).serves ?_ (by simp [hs])
    rcases hx with hx | hx <;> simp [Channel.haltRecord, hx]
  decided := by rw [haltIn_emn]; exact Emn.initial_decided

theorem Arbitrated.halt {s : State} (h : s.Arbitrated) (why : HaltReason) : (s.halt why).Arbitrated := by
  rcases s.halt_cases why with ⟨st, -, -, e⟩ | ⟨e, -⟩ <;> rw [e]
  · exact h.haltIn why st
  · exact h

theorem Arbitrated.haltIfStopAll {s : State} (h : s.Arbitrated) (why : HaltReason) : (s.haltIfStopAll why).Arbitrated := by
  rcases s.haltIfStopAll_cases why with ⟨-, e⟩ | ⟨-, e⟩ <;> rw [e]
  · exact h.halt why
  · exact h

theorem SameLanes.mapLif (f : Lif → Lif) (s : State) : s.SameLanes (s.mapLif f) := .of_records rfl rfl rfl rfl fun _ => rfl
theorem SameLanes.mapCfe (f : Cfe → Cfe) (s : State) : s.SameLanes (s.mapCfe f) := .of_records rfl rfl rfl rfl fun _ => rfl
theorem SameLanes.setSpu (x : Spu) (s : State) : s.SameLanes (s.setSpu x) := .of_records rfl rfl rfl rfl fun _ => rfl
theorem SameLanes.setPeers (ps : List PeerEntry) (s : State) : s.SameLanes (s.setPeers ps) :=
  .of_records rfl rfl rfl rfl fun _ => rfl
theorem SameLanes.setFlags (f : StationFlags → StationFlags) (s : State) : s.SameLanes (s.setFlags f) :=
  .of_records rfl rfl rfl rfl fun _ => rfl
theorem SameLanes.setForeign (on : Bool) (s : State) : s.SameLanes (s.setForeign on) :=
  .of_records rfl rfl rfl rfl fun _ => rfl
theorem SameLanes.refreshLamps (s : State) : s.SameLanes s.refreshLamps := .of_records rfl rfl rfl rfl fun _ => rfl
theorem SameLanes.release (s : State) : s.SameLanes s.release := .of_records rfl rfl rfl rfl fun _ => rfl
theorem SameLanes.queueReports (s : State) : s.SameLanes s.queueReports := .of_records rfl rfl rfl rfl fun _ => rfl
theorem SameLanes.markLimit (s : State) : s.SameLanes s.markLimit := .of_records rfl rfl rfl rfl fun _ => rfl

theorem Arbitrated.takeStopSeen {s : State} (h : s.Arbitrated) : s.takeStopSeen.Arbitrated :=
  (h.congr (.setFlags _ s)).haltIfStopAll _

theorem Arbitrated.takeShortHigh {s : State} (h : s.Arbitrated) : s.takeShortHigh.Arbitrated :=
  (h.congr (.mapLif _ s)).haltIfStopAll _

theorem Arbitrated.takeSlotConflict {s : State} (h : s.Arbitrated) : s.takeSlotConflict.Arbitrated := by
  have hf := h.congr (.setFlags (fun f => { f with slotConflict := true }) s)
  unfold State.takeSlotConflict
  dsimp only
  split
  case h_1 | h_2 => exact hf
  case h_3 => exact hf.congr (.refreshLamps _)
  case h_4 => exact (hf.congr (.mapLif _ _)).haltIfStopAll _
  case h_5 => exact hf.congr (.mapLif _ _)
  case h_6 | h_7 => exact h

theorem Arbitrated.takeQualifiedLow {s : State} (h : s.Arbitrated) : s.takeQualifiedLow.Arbitrated := by
  unfold State.takeQualifiedLow
  split
  case h_7 =>
    split
    · exact h.takeStopSeen
    · exact h
  all_goals exact h

/-! ### Frames -/

theorem Arbitrated.noteTaggedFrame {s : State} (h : s.Arbitrated) : s.noteTaggedFrame.Arbitrated := by
  unfold State.noteTaggedFrame
  split
  · exact h.congr (.setForeign true s)
  · exact h

theorem Arbitrated.takeCease {s : State} (h : s.Arbitrated) (tag : Byte) : (s.takeCease tag).Arbitrated := by
  unfold State.takeCease
  split
  · exact h.noteTaggedFrame
  · split
    · exact h.halt _
    · exact h
  all_goals exact h

theorem Arbitrated.takePresent {s : State} (h : s.Arbitrated) (src : Byte) (f : PresentFields) :
    (s.takePresent src f).Arbitrated := by
  unfold State.takePresent
  split
  · exact h.noteTaggedFrame
  · split
    · exact h
    · split
      · exact h.takeSlotConflict
      · exact h.congr (.setPeers _ s)
  · exact h

theorem Arbitrated.takeRecall {s : State} (h : s.Arbitrated) (f : RecallFields) : (s.takeRecall f).Arbitrated := by
  unfold State.takeRecall
  split
  · exact h.congr (.of_records rfl rfl rfl rfl fun _ => rfl)
  · exact h

/-- R18: the records and the monitor that an accepted BEGIN leaves. -/
theorem openSweep_arbitrated (f : BeginFields) (s : State) : (s.openSweep f).Arbitrated :=
  .fresh (fun c => by simp [chan, openSweep]) rfl rfl

theorem acceptBegin_arbitrated (f : BeginFields) (s : State) : (s.acceptBegin f).Arbitrated := by
  have h := (openSweep_arbitrated f s).congr (.refreshLamps _)
  unfold State.acceptBegin
  dsimp only
  split
  · exact h.takeStopSeen
  · exact h

/-- R16: a BEGIN in BARRED stores a tag, which the lanes do not read. -/
theorem SameLanes.barredBegin (f : BeginFields) (s : State) : s.SameLanes (s.barredBegin f) :=
  ⟨rfl, rfl, rfl, rfl, rfl, fun _ => rfl, fun _ => rfl, fun _ _ => rfl⟩

theorem Arbitrated.takeBegin {s : State} (h : s.Arbitrated) (f : BeginFields) : (s.takeBegin f).Arbitrated := by
  unfold State.takeBegin
  split
  case h_1 | h_2 => exact acceptBegin_arbitrated f s
  case h_3 => exact h.congr (.barredBegin f s)
  all_goals exact h

theorem Arbitrated.afterRemoval {s : State} (h : s.Arbitrated) (e : Entry) : (s.afterRemoval e).Arbitrated := by
  unfold State.afterRemoval
  split
  · rename_i st hs
    split
    · exact h.congr (.queueReports s)
    · split
      · exact h.enterDone (by rw [hs]; rfl)
      · exact h
  · exact h.tryRelease
  all_goals exact h

theorem Arbitrated.loseFrame {s : State} (h : s.Arbitrated) (lf : LineFrame) : (s.loseFrame lf).Arbitrated := by
  have hl := h.congr (.mapCfe (fun f => { f with onLine := none }) s)
  unfold State.loseFrame
  dsimp only
  split
  · exact (hl.congr (.mapCfe (·.removeEntry lf.entry) _)).afterRemoval _
  · exact hl

/-! ### Stage entry -/

/-- No request waits where no scan is open. -/
theorem LanesAgree.scanQueue_nil {s : State} (h : s.LanesAgree) (hi : ∀ c, (s.chan c).scan.state = .idle) : s.emn.scanQueue = [] :=
  List.eq_nil_iff_forall_not_mem.2 fun c hc => by
    have := (h.serves c).scan_pending.1 hc
    rw [hi] at this
    cases this

/-- R23: STATIC is entered from MUSTER. -/
theorem Arbitrated.enterStatic {s : State} (h : s.Arbitrated) (hs : s.swc.station = .inStage .muster) :
    (s.enterStage .static).Arbitrated :=
  h.rest (by rw [hs]; rfl) rfl rfl rfl rfl (fun _ => rfl) fun _ _ _ c => (h.lane c).scan_idle _ hs (by simp) (by simp)

/-- R24: IDENTIFY is entered from STATIC: every receiver that is not DEAD starts an attempt. -/
theorem Arbitrated.enterIdentify {s : State} (h : s.Arbitrated) (hs : s.swc.station = .inStage .static) :
    (s.enterStage .identify).Arbitrated where
  toLanesAgree := by
    refine h.toLanesAgree.updateUsed rfl rfl (fun c hc => ?_) (fun c hc => by simp [enterStage_identify_chan, hc])
      (fun c _ => .inl (.refl _ c)) h.orderly
    have hl := h.lane c
    have hoff := hl.rests (by rw [hs]; rfl)
    have hidle := hl.scan_idle _ hs (by simp) (by simp)
    rw [enterStage_identify_chan, if_pos hc]
    have hx : (s.chan c).enterIdentify.rx.Wf s.swc.params.budget ∧ ((s.chan c).enterIdentify.rx.state = .dead ∨
        (s.chan c).enterIdentify.rx.state = .acquiring) := by
      unfold Channel.enterIdentify
      dsimp only
      split
      · exact ⟨hl.rx, .inl ‹_›⟩
      · exact ⟨hl.rx.startAttempt ‹_› (by rcases hoff with e | e <;> rw [e] <;> rfl), .inr rfl⟩
    refine ⟨.entered hx.1 rfl (by rcases hx.2 with e | e <;> simp [e]) hidle, ?_⟩
    refine Emn.Ignores.serves ((h.serves c).ignores ?_ ?_) ?_ (by simp [hidle])
    · rcases hoff with e | e <;> simp [e]
    · simp [hidle]
    · rcases hx.2 with e | e <;> simp [e]
  decided := h.decided

/-- R25: SOAK is entered from IDENTIFY: a HELD receiver starts an attempt. -/
theorem Arbitrated.enterSoak {s : State} (h : s.Arbitrated) (hs : s.swc.station = .inStage .identify) :
    (s.enterStage .soak).Arbitrated where
  toLanesAgree := by
    refine h.toLanesAgree.updateUsed rfl rfl (fun c hc => ?_) (fun c hc => by simp [enterStage_soak_chan, hc])
      (fun c _ => .inl (.refl _ c)) h.orderly
    have hl := h.lane c
    have hon := hl.works (by rw [hs]; rfl) hc
    have hidle := hl.scan_idle _ hs (by simp) (by simp)
    have hsv := h.serves c
    rw [enterStage_soak_chan, if_pos hc]
    exact ⟨.entered hl.rx.resume rfl (fun e => hon ((Rx.resume_state_iff (by simp) (by simp)).1 e)) hidle,
      { spot_pending := hsv.spot_pending.trans (Rx.resume_state_iff (by simp) (by simp)).symm
        spot_granted := hsv.spot_granted.trans (Rx.resume_state_iff (by simp) (by simp)).symm
        scan_pending := hsv.scan_pending
        scan_granted := hsv.scan_granted }⟩
  decided := h.decided

theorem mem_lockedChans (s : State) (c : Chan) : c ∈ s.lockedChans ↔ s.inUse c = true ∧ (s.chan c).rx.state = .locked := by
  simp [lockedChans]

theorem lockedChans_nodup (s : State) : s.lockedChans.Nodup := s.inUseChans_nodup.filter _

theorem stressRequests_emn (s : State) : s.stressRequests.emn = s.emn.setQueue (s.emn.scanQueue ++ s.lockedChans) := rfl

/-- R26, R142: the requests as STRESS is entered from SOAK. -/
theorem LanesAgree.stressRequests {s : State} (h : s.LanesAgree) (hs : s.swc.station = .inStage .soak) :
    s.stressRequests.LanesAgree := by
  have hidle : ∀ c, (s.chan c).scan.state = .idle := fun c => (h.lane c).scan_idle _ hs (by simp) (by simp)
  have hq := h.scanQueue_nil hidle
  have hm : s.stressRequests.emn = s.emn.setQueue s.lockedChans := by rw [stressRequests_emn, hq]; rfl
  refine h.updateUsed rfl rfl (fun c hc => ?_) (fun c hc => by simp [stressRequests_chan, hc]) (fun c hc => .inl ?_)
    (by rw [hm]; exact h.orderly.setQueue s.lockedChans_nodup)
  · have hl := h.lane c
    have hsv := h.serves c
    rw [hs, hc] at hl
    rw [stressRequests_chan, if_pos hc, hm]
    refine ⟨hl.enterStress _, ?_⟩
    exact {
      spot_pending := hsv.spot_pending.trans (Rx.resume_state_iff (by simp) (by simp)).symm
      spot_granted := hsv.spot_granted.trans (Rx.resume_state_iff (by simp) (by simp)).symm
      scan_pending := by
        refine (s.mem_lockedChans c).trans ?_
        simp [Channel.enterStress, Scan.enter_pending, hc]
      scan_granted := hsv.scan_granted.trans (iff_of_false (by simp [hidle]) (Scan.enter_not_granted _ _)) }
  · rw [hm]
    refine ⟨Iff.rfl, iff_of_false (fun e => ?_) (by simp [hq]), fun _ _ => Iff.rfl⟩
    rw [((s.mem_lockedChans c).1 e).1] at hc
    cases hc

theorem enterStage_report_emn (s : State) : (s.enterStage .report).emn = Emn.initial := rfl

/-- R27: REPORT is entered from STRESS with every scan settled. -/
theorem Arbitrated.enterReport {s : State} (h : s.Arbitrated)
    (hset : ∀ c, s.inUse c = true → (s.chan c).scan.state = .settled) : (s.enterStage .report).Arbitrated where
  toLanesAgree := by
    refine h.toLanesAgree.updateUsed rfl rfl (fun c hc => ?_) (fun c hc => by simp [enterStage_report_chan, hc])
      (fun c _ => .inr (by rw [enterStage_report_emn]; exact Emn.initial_ignores c))
      (by rw [enterStage_report_emn]; exact Emn.initial_orderly _)
    have hl := h.lane c
    have hx := Rx.stop_rests (s.chan c).rx
    rw [hc] at hl
    rw [enterStage_report_chan, if_pos hc, enterStage_report_emn]
    refine ⟨hl.resting rfl (fun e => by cases e) hx hl.rx.stop (.inr (hset c hc)) fun st e1 e2 => ?_, ?_⟩
    · cases e1; exact absurd rfl e2
    · refine (Emn.initial_ignores c).serves ?_ (by simp [hset c hc])
      rcases hx with hx | hx <;> simp [Channel.enterReport, hx]
  decided := Emn.initial_decided

/-- R20, R39: the stage after the present one is entered. -/
theorem Arbitrated.enterStage {s : State} (h : s.Arbitrated) {st st' : Stage} (hs : s.swc.station = .inStage st)
    (hn : st.next = some st') (hset : st = .stress → ∀ c, s.inUse c = true → (s.chan c).scan.state = .settled) :
    (s.enterStage st').Arbitrated := by
  cases st <;> cases hn
  case muster => exact h.enterStatic hs
  case static => exact h.enterIdentify hs
  case identify => exact h.enterSoak hs
  case soak => rw [enterStage_stress]; exact (h.toLanesAgree.stressRequests hs).arbitrate
  case stress => exact h.enterReport (hset rfl)

/-- R26: a station that has released STRESS has its scans settled. -/
theorem SettledWf.scans_settled {s : State} (h : s.SettledWf) (hs : s.swc.station = .inStage .stress)
    (hr : s.swc.released = true) (c : Chan) (hc : s.inUse c = true) : (s.chan c).scan.state = .settled :=
  (h.stress (by simp [itemsDone, hs, hr]) c hc).2

/-! ### Limits -/

theorem expireItems_emn (st : Stage) (s : State) : (s.expireItems st).emn = Emn.initial := rfl

theorem expireItems_chan (st : Stage) (s : State) (c : Chan) : (s.expireItems st).chan c =
    if s.inUse c then expireRecord st (s.captureClass c) (s.silentClass c) (s.chan c) else s.chan c := by
  rw [expireItems, mapEmn_chan, mapInUse_chan]

/-- R99, R149: the limit of a stage stops the attempts, settles the scans and frees the monitor. -/
theorem Arbitrated.expireItems {s : State} (h : s.Arbitrated) (st : Stage) : (s.expireItems st).Arbitrated where
  toLanesAgree := by
    refine h.toLanesAgree.updateUsed rfl rfl (fun c hc => ?_) (fun c hc => by simp [expireItems_chan, hc])
      (fun c _ => .inr (by rw [expireItems_emn]; exact Emn.initial_ignores c))
      (by rw [expireItems_emn]; exact Emn.initial_orderly _)
    have hl := h.lane c
    rw [hc] at hl
    rw [expireItems_chan, if_pos hc, expireItems_emn]
    refine ⟨hl.expired rfl rfl rfl, (Emn.initial_ignores c).serves ?_ ?_⟩
    · simp only [expireRecord, Rx.expire_state]
      cases (s.chan c).rx.state <;> simp [RxState.attempting]
    · simp only [expireRecord, Scan.expire_state]
      split <;> simp
  decided := Emn.initial_decided

end State
end Sys2Proof.Machine
end

section
/-! SUPPORT. What the lanes and the eye monitor do keeps their invariant: attempts, locks, lock losses, token blocks, compared bits
and points. Settles O58. -/
namespace Sys2Proof.Machine

/-! ### Records -/

/-- R147: a lock loss leaves no scan pending or granted, opens none and leaves an idle one. -/
theorem Scan.lose_cases (k : Scan) : (k.lose.state ≠ .pending ∧ k.lose.state ≠ .granted) ∧
    (k.lose.state = .awaitLock → k.state = .awaitLock ∨ k.state = .pending ∨ k.state = .granted) ∧
    (k.state = .idle → k.lose.state = .idle) := by
  unfold Scan.lose
  cases hk : k.state with
  | granted =>
    dsimp only
    split <;> simp [Scan.settle]
  | _ => simp [hk]

namespace Channel.LaneWf

variable {station : StationState} {budget : Nat} {used : Bool} {r r' : Channel}

/-- The record of a running receiver after a failure, with no scan pending or granted. -/
theorem failed (h : r.LaneWf station budget used) (ho : r.rx.state ≠ .off) (hd : r.rx.state ≠ .dead) (hw : r'.rx.Wf budget)
    (hx : r'.rx.state ≠ .off) (hf : r'.scan.state ≠ .pending ∧ r'.scan.state ≠ .granted)
    (ha : r'.scan.state = .awaitLock → r.scan.state = .awaitLock ∨ r.scan.state = .pending ∨ r.scan.state = .granted)
    (hi : r.scan.state = .idle → r'.scan.state = .idle) : r'.LaneWf station budget used := by
  obtain ⟨hrun, hu⟩ := h.running ho hd
  exact {
    unused := fun e => by rw [hu] at e; cases e
    rests := fun e => by rw [hrun] at e; cases e
    works := fun _ _ => hx
    rx := hw
    scan_locked := fun e => by rcases e with e | e <;> simp [e] at hf
    scan_stage := fun e => h.scan_stage (ha (by simpa [hf] using e))
    scan_idle := fun st e1 e2 e3 => hi (h.scan_idle st e1 e2 e3) }

/-- R93: the record of a receiver whose SPOT passed. -/
theorem locked (h : r.LaneWf station budget used) (hx : r.rx.state = .spotRun) (st : Stage) (b : Bool) :
    (State.lockRecord st b r).LaneWf station budget used := by
  obtain ⟨hrun, hu⟩ := h.running (by simp [hx]) (by simp [hx])
  exact {
    unused := fun e => by rw [hu] at e; cases e
    rests := fun e => by rw [hrun] at e; cases e
    works := fun _ _ => by simp [State.lockRecord]
    rx := h.rx.follow (by rw [hx]; rfl) rfl
    scan_locked := fun _ => rfl
    scan_stage := fun e => by
      by_cases ha : r.scan.state = .awaitLock
      · exact h.scan_stage (.inl ha)
      · exact h.scan_stage (by simpa [State.lockRecord, ha] using e)
    scan_idle := fun st e1 e2 e3 => by
      have := h.scan_idle st e1 e2 e3
      simp [State.lockRecord, this] }

end Channel.LaneWf

/-- Serves of a record whose receiver neither was nor is at a SPOT. -/
theorem Emn.Serves.restate {m : Emn} {c : Chan} {r r' : Channel} (h : m.Serves c r)
    (hx : r.rx.state ≠ .spotWait ∧ r.rx.state ≠ .spotRun) (hx' : r'.rx.state ≠ .spotWait ∧ r'.rx.state ≠ .spotRun)
    (hs : r'.scan.state = r.scan.state) : m.Serves c r' where
  spot_pending := iff_of_false (fun e => hx.1 (h.spot_pending.1 e)) hx'.1
  spot_granted := iff_of_false (fun e => hx.2 (h.spot_granted.1 e)) hx'.2
  scan_pending := by rw [hs]; exact h.scan_pending
  scan_granted := by rw [hs]; exact h.scan_granted

namespace State

/-- What a failure leaves of the receive items and of the scan state. -/
theorem FailedIn.rx_scan {st : Stage} {c : Chan} {s : State} {r r' : Channel} (h : s.FailedIn st c r r') :
    r'.rx = r.rx.failedOnce s.swc.params ∧ (r'.scan = r.scan ∨ r'.scan.state = .settled ∧ r.scan.state ≠ .idle) := by
  by_cases hb : r.rx.retrainCount < s.swc.params.budget
  · rw [h.1 hb]
    exact ⟨rfl, .inl rfl⟩
  · have hd := h.2 (by omega)
    refine ⟨hd.rx, ?_⟩
    cases hk : r.scan.state with
    | idle => exact .inl (hd.scan_other (.inl hk))
    | settled => exact .inl (hd.scan_other (.inr hk))
    | awaitLock => exact .inr ⟨by rw [hd.scan_open (.inl hk)], by simp⟩
    | pending => exact .inr ⟨by rw [hd.scan_open (.inr (.inl hk))], by simp⟩
    | granted => exact .inr ⟨by rw [hd.scan_open (.inr (.inr hk))], by simp⟩

/-- A station in which lanes run is in a stage. -/
theorem stage_of_lanesRun {x : StationState} (h : x.lanesRun = true) : ∃ st, x = .inStage st := by
  cases x with
  | inStage st => exact ⟨st, rfl⟩
  | _ => cases h

/-- R95: a failure of channel c, whose record but for the failure is r and whom monitor m ignores, keeps the invariant. -/
theorem LanesAgree.fail {s u : State} (h : s.LanesAgree) {c : Chan} {r : Channel} {m : Emn} {n : Nat}
    (hu : s.ChanAndMonitor c r m u) (ho : (s.chan c).rx.state ≠ .off) (hd : (s.chan c).rx.state ≠ .dead) (hn : n ≤ missLimit)
    (hr : r.rx = { (s.chan c).rx with missCount := n }) (hf : r.scan.state ≠ .pending ∧ r.scan.state ≠ .granted)
    (ha : r.scan.state = .awaitLock →
      (s.chan c).scan.state = .awaitLock ∨ (s.chan c).scan.state = .pending ∨ (s.chan c).scan.state = .granted)
    (hi : (s.chan c).scan.state = .idle → r.scan.state = .idle) (hsame : ∀ d, d ≠ c → s.emn.SameFor m d) (hg : m.Ignores c)
    (hm : m.Orderly s.swc.params.p) : (u.countFailure c).LanesAgree := by
  have hl := h.lane c
  obtain ⟨st, hst⟩ := stage_of_lanesRun (hl.running ho hd).1
  obtain ⟨r', hfail, honly⟩ := countFailure_outcome (s := u) (st := st) (by rw [hu.same.2, hst]) c
  rw [hu.2.1] at hfail
  obtain ⟨hrx, hscan⟩ := hfail.rx_scan
  rw [hu.same.2] at hrx
  have hx := Rx.failedOnce_state s.swc.params r.rx
  rw [← hrx] at hx
  have hf' : r'.scan.state ≠ .pending ∧ r'.scan.state ≠ .granted := by
    rcases hscan with e | ⟨e, -⟩ <;> rw [e]
    · exact hf
    · simp
  refine h.update (hu.after (m' := m) ⟨?_, honly.2⟩) hsame ?_ (hg.serves ?_ hf') hm
  · rw [← hu.emn_eq]; exact honly.1
  · refine hl.failed ho hd (by rw [hrx, hr]; exact hl.rx.failedOnce hd hn) ?_ hf' (fun e => ?_) (fun e => ?_)
    · rcases hx with e | e <;> simp [e]
    · rcases hscan with e' | ⟨e', -⟩
      · exact ha (by rw [← e']; exact e)
      · rw [e'] at e; cases e
    · rcases hscan with e' | ⟨-, e'⟩
      · rw [e']; exact hi e
      · exact absurd (hi e) e'
  · rcases hx with e | e <;> simp [e]

/-! ### Attempts -/

/-- A receiver in an attempt is running and not LOCKED. -/
theorem attempting_ne {x : RxState} (h : x.attempting = true) : x ≠ .off ∧ x ≠ .dead ∧ x ≠ .locked := by
  refine ⟨?_, ?_, ?_⟩ <;> (rintro rfl; cases h)

theorem following_ne {x : RxState} (h : x.following = true) : x ≠ .off ∧ x ≠ .dead := by
  refine ⟨?_, ?_⟩ <;> (rintro rfl; cases h)

/-- The marker miss count that stands is no change. -/
theorem setMiss_self (r : Channel) : setMiss r.rx.missCount r = r := rfl

theorem mapChan_self (c : Chan) {f : Channel → Channel} {s : State} (h : f (s.chan c) = s.chan c) : s.mapChan c f = s := by
  unfold mapChan
  rw [h]
  simp [chan]

/-- R92, R95, R141: a failed attempt, with the marker miss count as the event leaves it. -/
theorem Arbitrated.failAttemptAt {s : State} (h : s.Arbitrated) {c : Chan} {n : Nat}
    (hx : (s.chan c).rx.state.attempting = true) (hn : n ≤ missLimit) :
    ((s.mapChan c (setMiss n)).failAttempt c).Arbitrated := by
  obtain ⟨ho, hd, hnl⟩ := attempting_ne hx
  have hfree := (h.lane c).scan_free hnl
  have hq := (h.serves c).no_scan hfree.1
  unfold failAttempt
  refine Arbitrated.finish (LanesAgree.arbitrate ?_) _
  exact h.toLanesAgree.fail (mapChan_mapEmn_only c (setMiss n) (·.dropSpot c) s) ho hd hn rfl hfree (fun e => .inl e)
    (fun e => e) (fun d hdc => Emn.dropSpot_sameFor _ hdc) (Emn.dropSpot_ignores h.orderly hq) (h.orderly.dropSpot c)

theorem Arbitrated.failAttempt {s : State} (h : s.Arbitrated) {c : Chan} (hx : (s.chan c).rx.state.attempting = true) :
    (s.failAttempt c).Arbitrated := by
  have := h.failAttemptAt hx (h.lane c).rx.miss_le
  rwa [mapChan_self c (setMiss_self _)] at this

/-- R94, R147: a lock loss, with the marker miss count as the event leaves it. -/
theorem Arbitrated.loseLockAt {s : State} (h : s.Arbitrated) {c : Chan} {n : Nat} (hx : (s.chan c).rx.state = .locked)
    (hn : n ≤ missLimit) : ((s.mapChan c (setMiss n)).loseLock c).Arbitrated := by
  obtain ⟨st, hst⟩ := stage_of_lanesRun ((h.lane c).running (by simp [hx]) (by simp [hx])).1
  obtain ⟨hf, ha, hi⟩ := Scan.lose_cases (s.chan c).scan
  have hsp := (h.serves c).no_spot (by simp [hx])
  rw [loseLock_of_stage (s := s.mapChan c (setMiss n)) (st := st) hst, mapChan_mapChan]
  refine Arbitrated.finish (LanesAgree.arbitrate ?_) _
  exact h.toLanesAgree.fail (mapChan_mapEmn_only c (fun r => loseRecord st (setMiss n r)) (·.dropScan c) s) (by simp [hx])
    (by simp [hx]) hn (by rw [loseRecord_rx]; rfl) hf ha hi (fun d hdc => Emn.dropScan_sameFor _ hdc)
    (Emn.dropScan_ignores h.orderly hsp) (h.orderly.dropScan c)

theorem Arbitrated.loseLock {s : State} (h : s.Arbitrated) {c : Chan} (hx : (s.chan c).rx.state = .locked) :
    (s.loseLock c).Arbitrated := by
  have := h.loseLockAt hx (h.lane c).rx.miss_le
  rwa [mapChan_self c (setMiss_self _)] at this

/-- A running receiver that is at no SPOT and not LOCKED moves to another such state. -/
theorem Arbitrated.moveRx {s : State} (h : s.Arbitrated) {c : Chan} {f : Channel → Channel}
    (hx : (s.chan c).rx.state = .acquiring ∨ (s.chan c).rx.state = .retrainWait)
    (hx' : (f (s.chan c)).rx.state = .searching ∨ (f (s.chan c)).rx.state = .held ∨ (f (s.chan c)).rx.state = .acquiring)
    (hw : (f (s.chan c)).rx.Wf s.swc.params.budget) (hs : (f (s.chan c)).scan = (s.chan c).scan) :
    (s.mapChan c f).Arbitrated := by
  have hne : (s.chan c).rx.state ≠ .off ∧ (s.chan c).rx.state ≠ .dead ∧ (s.chan c).rx.state ≠ .locked ∧
      (s.chan c).rx.state ≠ .spotWait ∧ (s.chan c).rx.state ≠ .spotRun := by rcases hx with e | e <;> simp [e]
  have hne' : (f (s.chan c)).rx.state ≠ .off ∧ (f (s.chan c)).rx.state ≠ .spotWait ∧ (f (s.chan c)).rx.state ≠ .spotRun := by
    rcases hx' with e | e | e <;> simp [e]
  exact h.updateChan ((h.lane c).rx_step hne.1 hne.2.1 hs hne'.1 hw fun e => absurd e hne.2.2.1)
    ((h.serves c).restate hne.2.2.2 hne'.2 (by rw [hs]))

/-- R90, R92: a search ends in success, and its SPOT is requested. -/
theorem LanesAgree.searchSucceeds {s : State} (h : s.LanesAgree) {c : Chan} (pol : Polarity) (ref : BitVec 31)
    (hx : (s.chan c).rx.state = .searching) :
    LanesAgree ((s.mapChan c (searchRecord pol ref)).mapEmn fun m => { m with spotPending := addSpot c m.spotPending }) := by
  have hl := h.lane c
  have hig := (h.serves c).ignores (by simp [hx]) (hl.scan_free (by simp [hx]))
  refine h.update (mapChan_mapEmn_only c _ _ s) (fun d hd => ⟨?_, Iff.rfl, fun _ _ => Iff.rfl⟩) ?_ ?_ ?_
  · exact (mem_addSpot c d _).trans (or_iff_right hd)
  · exact hl.rx_step (by simp [hx]) (by simp [hx]) rfl (by simp [searchRecord]) (hl.rx.found hx pol _ ref) (by simp [hx])
  · exact {
      spot_pending := iff_of_true ((mem_addSpot c c _).2 (.inl rfl)) rfl
      spot_granted := iff_of_false (fun ⟨g, _, hg, hc, _⟩ => hig.grant g hg hc) (by simp [searchRecord])
      scan_pending := (h.serves c).scan_pending
      scan_granted := (h.serves c).scan_granted }
  · exact { h.orderly with spot_order := addSpot_ordered c h.orderly.spot_order }

/-! ### Token blocks -/

/-- The marker miss count of a receiver that follows its lane, below the limit. -/
theorem Arbitrated.setMiss {s : State} (h : s.Arbitrated) {c : Chan} {n : Nat} (hx : (s.chan c).rx.state.following = true)
    (hn : n < missLimit) : (s.mapChan c (setMiss n)).Arbitrated := by
  obtain ⟨ho, hd⟩ := following_ne hx
  exact h.updateChan ((h.lane c).rx_step ho hd rfl ho ((h.lane c).rx.setMiss hn) fun e => e) ((h.serves c).congr rfl rfl)

/-- A token block touches the record of its own channel alone. -/
theorem takeBlock_chan_other {c d : Chan} (hd : d ≠ c) (w : BitVec 32) (s : State) : (s.takeBlock c w).chan d = s.chan d := by
  have hvalid : ∀ id t st, (s.takeValidToken c id t st).chan d = s.chan d := fun id t st => by
    unfold takeValidToken
    dsimp only
    rw [mapChan_chan_other hd]
    split <;> simp
  have hnone : ∀ u : State, (u.takeNoToken c).chan d = u.chan d := fun u => mapChan_chan_other hd _ u
  unfold takeBlock
  split
  · split
    · rw [hnone]; exact mapChan_chan_other hd _ s
    all_goals
      split
      · exact hvalid _ _ _
      · exact hnone s
  · rfl

theorem SameLanes.takeBlock {c : Chan} {s : State} (hu : s.inUse c = true) (w : BitVec 32) : s.SameLanes (s.takeBlock c w) where
  identity := by simp
  station := by simp
  budget := by simp
  p := by simp
  emn := by simp
  rx := by simp
  scan := by simp
  unused := fun d hd => takeBlock_chan_other (fun e => by rw [e, hu] at hd; cases hd) w s

/-! ### Compared bits -/

/-- R121: a compared bit moves the checker reference on, and leaves the other receive items and the scan alone. -/
theorem takeLaneBit_record (c : Chan) (ref : BitVec 31) (b : Bool) (s : State) : ∃ f, s.takeLaneBit c ref b = s.mapChan c f ∧
    (f (s.chan c)).rx = { (s.chan c).rx with reference := some (advancePattern ref) } ∧
    (f (s.chan c)).scan = (s.chan c).scan := by
  unfold takeLaneBit
  dsimp only
  split
  · split
    · rw [mapChan_mapChan]
      exact ⟨_, rfl, by rw [takeComparedBit_rx]; rfl, by rw [takeComparedBit_scan]; rfl⟩
    · exact ⟨_, rfl, rfl, rfl⟩
  all_goals exact ⟨_, rfl, rfl, rfl⟩

theorem Arbitrated.takeLaneBit {s : State} (h : s.Arbitrated) {c : Chan} (hx : (s.chan c).rx.state.following = true)
    (ref : BitVec 31) (b : Bool) : (s.takeLaneBit c ref b).Arbitrated := by
  obtain ⟨f, e, hrx, hs⟩ := s.takeLaneBit_record c ref b
  obtain ⟨ho, hd⟩ := following_ne hx
  rw [e]
  refine h.updateChan ((h.lane c).rx_step ho hd hs ?_ ?_ fun e => ?_) ((h.serves c).congr (by rw [hrx]) (by rw [hs]))
  · rw [hrx]; exact ho
  · rw [hrx]; exact (h.lane c).rx.advance hx _
  · rw [hrx]; exact e

/-- The standing grant goes on with another point or bit number, for the same channel and the same kind of procedure. -/
theorem Arbitrated.regrant {s : State} (h : s.Arbitrated) {g g' : Grant} (hg : s.emn.grant = some g) (hc : g'.channel = g.channel)
    (hp : (∃ f, g'.procedure = .spot f) ↔ ∃ f, g.procedure = .spot f)
    (hq : (∃ st rd, g'.procedure = .scan st rd) ↔ ∃ st rd, g.procedure = .scan st rd) (hb : g'.bits ≤ 2 ^ s.swc.params.p) :
    (s.mapEmn fun m => { m with grant := some g' }).Arbitrated where
  toLanesAgree := by
    have hv := h.serves g.channel
    refine h.toLanesAgree.update (c := g.channel) (r := s.chan g.channel) ⟨rfl, rfl, fun _ _ => rfl⟩
      (fun d hd => ⟨Iff.rfl, Iff.rfl, fun x hx => ?_⟩) (h.lane _) ?_ (h.orderly.setGrant fun x e => by cases e; exact hb)
    · rw [hg]
      refine iff_of_false (fun e => hd ?_) (fun e => hd ?_) <;> cases e
      · exact hx.symm.trans hc
      · exact hx.symm
    · refine ⟨hv.spot_pending, Iff.trans ?_ hv.spot_granted, hv.scan_pending, Iff.trans ?_ hv.scan_granted⟩
      · simp only [Emn.SpotFor, hg, Option.some.injEq, exists_and_left, exists_eq_left', hc, hp]
      · simp only [Emn.ScanFor, hg, Option.some.injEq, exists_and_left, exists_eq_left', hc, hq]
  decided := fun e => by cases e

/-- R138: the granted point takes a bit while its bit number is below 2^P. -/
theorem Arbitrated.takeBit {s : State} (h : s.Arbitrated) (c : Chan) (differs : Bool) :
    (s.mapEmn (Emn.takeBit s.swc.params.p c differs)).Arbitrated := by
  have same : ∀ {f : Emn → Emn}, f s.emn = s.emn → (s.mapEmn f).Arbitrated := fun {f} e => by
    rw [show s.mapEmn f = s by unfold State.mapEmn; rw [e]]; exact h
  cases hg : s.emn.grant with
  | none => exact same (by simp [Emn.takeBit, hg])
  | some g =>
    by_cases hb : g.channel = c ∧ g.bits < 2 ^ s.swc.params.p
    · have := h.regrant (g' := { g with bits := g.bits + 1, disagreed := g.disagreed || differs }) hg rfl Iff.rfl Iff.rfl
        hb.2
      rwa [show s.mapEmn (Emn.takeBit s.swc.params.p c differs) = s.mapEmn fun m => { m with
        grant := some { g with bits := g.bits + 1, disagreed := g.disagreed || differs } } by
          unfold State.mapEmn Emn.takeBit; rw [hg]; simp only [hb.1, hb.2, and_self, if_true]]
    · exact same (by simp only [Emn.takeBit, hg, hb, if_false])

theorem Arbitrated.takeCompared {s : State} (h : s.Arbitrated) (c : Chan) (received monitor : Bool) :
    (s.takeCompared c received monitor).Arbitrated := by
  unfold State.takeCompared
  split
  · rename_i ref _
    split
    · have := (h.takeLaneBit ‹_› ref received).takeBit c (received != monitor)
      rw [takeLaneBit_swc] at this
      exact this.finish s
    · exact h
  · exact h

/-! ### Points -/

/-- A grant that has ended leaves every other channel's requests and grant. -/
theorem free_sameFor {m : Emn} {g : Grant} (hg : m.grant = some g) {d : Chan} (hd : d ≠ g.channel) : m.SameFor m.free d where
  spot := Iff.rfl
  scan := Iff.rfl
  grant := fun x hx => iff_of_false (fun e => by cases e) (fun e => hd (by rw [hg] at e; cases e; exact hx.symm))

/-- R93, R140: a SPOT that passed. -/
theorem LanesAgree.passSpot {s : State} (h : s.LanesAgree) {g : Grant} (hg : s.emn.grant = some g)
    (hx : (s.chan g.channel).rx.state = .spotRun) : ((s.mapEmn Emn.free).lock g.channel).LanesAgree := by
  have hl := h.lane g.channel
  have hfree := hl.scan_free (by simp [hx])
  have hq := (h.serves g.channel).no_scan hfree.1
  have hsp := (h.serves g.channel).no_spot (by simp [hx])
  obtain ⟨st, hst⟩ := stage_of_lanesRun (hl.running (by simp [hx]) (by simp [hx])).1
  have ho := lock_outcome (s := s.mapEmn Emn.free) (st := st) hst g.channel
  have hlr := hl.locked hx st (!s.swc.settleDelay.isRunning)
  rw [mapEmn_chan, mapEmn_swc, mapEmn_emn] at ho
  by_cases ha : (s.chan g.channel).scan.state = .awaitLock
  · rw [if_pos ha] at ho
    refine h.update (s := s) ⟨ho.1, ho.2⟩ (fun d hd => ?_) hlr ?_ ?_
    · have hf := free_sameFor hg hd
      exact ⟨hf.spot, (by simp [Emn.free, hd]), hf.grant⟩
    · exact {
        spot_pending := iff_of_false hsp (by simp [lockRecord])
        spot_granted := iff_of_false (by rintro ⟨x, _, e, -⟩; cases e) (by simp [lockRecord])
        scan_pending := iff_of_true (by simp) (by simp [lockRecord, ha])
        scan_granted := iff_of_false (by rintro ⟨x, _, _, e, -⟩; cases e) (by simp [lockRecord, ha]) }
    · exact {
        h.orderly.free with
        scan_once := List.nodup_append.2 ⟨h.orderly.scan_once, by simp, fun a ha b hb e => by
          rw [List.mem_singleton] at hb; exact hq (hb ▸ e ▸ ha)⟩
        skip_zero := fun e => by simp at e }
  · rw [if_neg ha] at ho
    exact h.update (s := s) ⟨ho.1, ho.2⟩ (fun d hd => free_sameFor hg hd) hlr
      ((Emn.free_ignores hsp hq).serves (by simp [lockRecord]) (by simp [lockRecord, ha, hfree])) h.orderly.free

/-- R95, R140: a SPOT that failed. -/
theorem LanesAgree.failSpot {s : State} (h : s.LanesAgree) {g : Grant} (hg : s.emn.grant = some g)
    (hx : (s.chan g.channel).rx.state = .spotRun) : ((s.mapEmn Emn.free).countFailure g.channel).LanesAgree := by
  have hl := h.lane g.channel
  have hfree := hl.scan_free (by simp [hx])
  have hv := h.serves g.channel
  exact h.fail (c := g.channel) (r := s.chan g.channel) (m := s.emn.free) ⟨rfl, rfl, fun _ _ => rfl⟩ (by simp [hx])
    (by simp [hx]) hl.rx.miss_le rfl hfree (fun e => .inl e) (fun e => e) (fun d hd => free_sameFor hg hd)
    (Emn.free_ignores (hv.no_spot (by simp [hx])) (hv.no_scan hfree.1)) h.orderly.free

/-- R146: a granted scan settles, and its grant ends. -/
theorem LanesAgree.settleScan {s : State} (h : s.LanesAgree) {g : Grant} (hg : s.emn.grant = some g)
    (hk : (s.chan g.channel).scan.state = .granted) (o : ScanOutcome) (figs : Option ScanFigures) :
    ((s.settleScan g.channel o figs).mapEmn Emn.free).LanesAgree := by
  have hl := h.lane g.channel
  have hx := hl.scan_locked (.inr hk)
  have hv := h.serves g.channel
  exact h.update (mapChan_mapEmn_only g.channel _ Emn.free s) (fun d hd => free_sameFor hg hd) (hl.scan_step (.inr hk) rfl)
    ((Emn.free_ignores (hv.no_spot (by simp [hx])) (hv.no_scan (by simp [hk]))).serves (by simp [hx]) (by simp [Scan.settle]))
    h.orderly.free

/-- R138, R140, R144: the procedure of the grant takes the point's result. -/
theorem Arbitrated.takePoint {s : State} (h : s.Arbitrated) {g : Grant} (hg : s.emn.grant = some g) (isOpen : Bool) :
    (s.takePoint g isOpen).Arbitrated := by
  unfold State.takePoint
  split
  · rename_i hp
    exact h.regrant hg rfl (by simp [grantAt, hp]) (by simp [grantAt, hp]) (Nat.zero_le _)
  · rename_i first hp
    have hx := (h.serves g.channel).spot_granted.1 ⟨g, _, hg, rfl, hp⟩
    unfold State.endSpot
    dsimp only
    refine Arbitrated.finish (LanesAgree.arbitrate ?_) _
    split
    · exact h.toLanesAgree.passSpot hg hx
    · exact h.toLanesAgree.failSpot hg hx
  · rename_i st rd hp
    have hk := (h.serves g.channel).scan_granted.1 ⟨g, st, rd, hg, rfl, hp⟩
    split
    · exact h.regrant hg rfl (by simp [grantAt, hp]) (by simp [grantAt, hp]) (Nat.zero_le _)
    all_goals exact Arbitrated.finish (LanesAgree.arbitrate (h.toLanesAgree.settleScan hg hk _ _)) _

theorem Arbitrated.endPoint {s : State} (h : s.Arbitrated) : s.endPoint.Arbitrated :=
  endPoint_of Arbitrated h fun _ hg => h.takePoint hg _

theorem Arbitrated.endPointOf {s : State} (h : s.Arbitrated) (c : Chan) : (s.endPointOf c).Arbitrated :=
  endPointOf_of c Arbitrated h fun _ hg => h.takePoint hg _

/-! ### Every command -/

/-- R72: the findings of a probe round are static fields alone. -/
theorem SameLanes.writeFindings (p : ProbeRound) (s : State) : s.SameLanes (s.writeFindings p) :=
  .mapInUse (f := fun c r => { r with static := roundFindings p (s.bridgePartner p.round) c r.static }) (fun _ _ => rfl)
    (fun _ _ => rfl) s

/-- An in-use channel's receiver and no other is LOCKED. -/
theorem Arbitrated.used_of_locked {s : State} (h : s.Arbitrated) {c : Chan} (hx : (s.chan c).rx.state = .locked) :
    s.inUse c = true := ((h.lane c).running (by simp [hx]) (by simp [hx])).2

/-- What any command but a reset's start or end leaves of the lanes and the monitor. -/
theorem Effect.arbitrated {s t : State} (e : s.Effect t) (h : s.Arbitrated) (hset : s.SettledWf) : t.Arbitrated := by
  cases e with
  | unchanged => exact h
  | line f => exact h.congr (.mapLif f s)
  | frameEngine f => exact h.congr (.mapCfe f s)
  | probe x => exact h.congr (.setSpu x s)
  | blink | delayIdle => exact h.congr (.of_records rfl rfl rfl rfl fun _ => rfl)
  | beginTaken f => exact (h.congr (.mapCfe _ s)).takeBegin f
  | ceaseTaken tag => exact (h.congr (.mapCfe _ s)).takeCease tag
  | presentTaken src f => exact (h.congr (.mapCfe _ s)).takePresent src f
  | recallTaken f => exact (h.congr (.mapCfe _ s)).takeRecall f
  | reportTaken => exact (h.congr (.mapCfe _ s)).noteTaggedFrame
  | frameSent f x => exact (h.congr (.mapCfe f s)).afterRemoval x
  | frameLost lf => exact h.loseFrame lf
  | conflict lf => exact (h.loseFrame lf).takeSlotConflict
  | stopLow => exact (h.congr (.mapLif _ s)).takeQualifiedLow
  | nextStage hs hn hr =>
    exact (h.congr (.mapLif _ s)).enterStage hs hn fun e => hset.scans_settled (e ▸ hs) hr
  | sweepEnd hs => exact h.enterDone (by rw [hs]; rfl)
  | released => exact h.congr (.release s)
  | stallInReport hs => exact (h.congr (.setFlags _ s)).enterDone (by rw [setFlags_swc, hs]; rfl)
  | stall => exact ((h.congr (.setFlags _ s)).congr (.mapLif _ _)).halt _
  | quiet f hs => exact (h.congr (.mapLif f s)).congr (.setForeign false _)
  | queueLimit f => exact ((h.congr (.markLimit s)).congr (.mapCfe f _)).tryRelease
  | itemLimit hs => exact ((h.congr (.markLimit s)).expireItems _).finish s
  | doubleLimit f => exact (h.congr (.mapCfe f s)).tryRelease
  | round p x =>
    exact ((h.congr (.writeFindings p s)).congr (.setSpu x _)).tryRelease
  | roundShortHigh p x =>
    exact ((h.congr (.writeFindings p s)).congr (.setSpu x _)).takeShortHigh.tryRelease
  | @tokenPeriod c _ t' ht =>
    refine h.congr (.mapChan rfl rfl ?_)
    by_contra e
    rw [(h.lane c).unused (by simpa using e)] at ht
    cases ht
  | @clockFound c hx => exact h.moveRx (.inl hx) (.inl rfl) ((h.lane c).rx.toSearching hx) rfl
  | attemptFails hx => exact h.failAttempt hx
  | searchSucceeds pol ref hx => exact (h.toLanesAgree.searchSucceeds pol ref hx).arbitrate
  | markerSeen hx => exact h.setMiss hx (by decide)
  | @block c w hx =>
    have hm : (s.mapChan c (setMiss 0)).Arbitrated := h.setMiss (by rw [hx]; rfl) (by decide)
    exact (hm.congr (.takeBlock (s := s.mapChan c (setMiss 0)) (h.used_of_locked hx) w)).finish s
  | markerMissed hx hm => exact h.setMiss hx hm
  | blockMissed hx hm =>
    exact ((h.setMiss (by rw [hx]; rfl) hm).congr (.mapChan rfl rfl (h.used_of_locked hx))).finish s
  | @framingLost c hx => exact h.loseLockAt hx ((h.lane c).rx.miss_lt (by rw [hx]; rfl))
  | @framingFails c hx hl =>
    refine h.failAttemptAt ?_ ((h.lane c).rx.miss_lt hx)
    cases hst : (s.chan c).rx.state <;> simp_all [RxState.following, RxState.attempting]
  | lockLost hx => exact h.loseLock hx
  | @retrainHeld c hx => exact h.moveRx (.inr hx) (.inr (.inl rfl)) ((h.lane c).rx.toHeld hx) rfl
  | @retrain c hx =>
    exact h.moveRx (.inr hx) (.inr (.inr rfl))
      ((h.lane c).rx.startAttempt (by simp [hx]) (by rw [hx]; rfl)) rfl
  | delayEnd st =>
    have hm : (s.mapSwc fun w => { w with settleDelay := .stopped }).Arbitrated :=
      h.congr (.of_records rfl rfl rfl rfl fun _ => rfl)
    exact hm.congr (.mapInUse (fun _ r => delayRecord_rx st r) (fun _ r => delayRecord_scan st r) _)
  | compared c received monitor => exact (h.endPointOf c).takeCompared c received monitor
  | pointEnd => exact h.endPoint

/-- R13: the start of a reset leaves a fresh part. -/
theorem resetBegun_arbitrated (s : State) : s.resetBegun.Arbitrated :=
  .fresh (fun c => by simp [chan, resetBegun, inReset]) rfl rfl

/-- R14: in RESET no channel is in use, so every record is the initial one, and the end of the reset leaves a fresh part. -/
theorem resetEnded_arbitrated {s : State} (h : s.Arbitrated) (hl : s.LinesWf) (hs : s.swc.station = .reset) (st : Straps) :
    (s.resetEnded st).Arbitrated := by
  have hid : s.identity = none := hl.identity_iff.2 hs
  have hc : ∀ c, s.chan c = Channel.initial := fun c => (h.lane c).unused (by simp [inUse, hid])
  have hr : (s.resetEnded st).swc.station.lanesRun = false := by
    rw [resetEnded_station]
    split <;> rfl
  refine ⟨⟨fun c => ?_, fun c => h.serves c, h.orderly⟩, h.decided⟩
  rw [show (s.resetEnded st).chan c = Channel.initial from hc c]
  exact .initial_resting hr

end State
end Sys2Proof.Machine

namespace Sys2Proof.Proofs
open Sys2Proof.Machine

/-- Settles O58: LanesWf and MonitorWf together are State.Arbitrated, which a reset's start and end and every effect keep. -/
theorem lanesAndMonitorKept : Obligations.LanesAndMonitorKept := by
  intro c s t hlines hl hm hset ht
  have h : s.Arbitrated := s.arbitrated_iff.2 ⟨hl, hm⟩
  refine t.arbitrated_iff.1 ?_
  rcases exec_next_cases ht with ⟨-, rfl⟩ | ⟨st, -, hs, rfl⟩ | e
  · exact s.resetBegun_arbitrated
  · exact State.resetEnded_arbitrated h hlines hs st
  · exact e.arbitrated h hset

end Sys2Proof.Proofs
end

section
/-! SUPPORT. The station state under every command (2.1): the commands that leave it alone, and how the others move it. Settles
O8. -/
namespace Sys2Proof.Machine

namespace State

/-- The parameters stand, and the station state stands or goes as the row says. -/
abbrev StaysOr (row : Prop) (s t : State) : Prop :=
  (t.swc.station = s.swc.station ∨ row) ∧ t.swc.params = s.swc.params

theorem StaysOr.station {row : Prop} {s t : State} (h : StaysOr row s t) : t.swc.station = s.swc.station ∨ row := h.1

theorem StaysOr.params {row : Prop} {s t : State} (h : StaysOr row s t) : t.swc.params = s.swc.params := h.2

/-- The station is halted from a stage before REPORT (R29), or its state stands. -/
abbrev StaysOrHalts (s t : State) : Prop :=
  StaysOr (∃ st, st ≠ .report ∧ s.swc.station = .inStage st ∧ t.swc.station = .halted st) s t

/-- A HALTED station with an empty queue is in DONE (R34), or its state stands. -/
abbrev StaysOrEnds (s t : State) : Prop :=
  StaysOr ((∃ st, s.swc.station = .halted st) ∧ t.swc.station = .done ∧ t.cfe.queue = []) s t

/-- The station state and the parameters stand. -/
abbrev Stays (s t : State) : Prop := StaysOr False s t

theorem Stays.of_eq {s t : State} (h1 : t.swc.station = s.swc.station) (h2 : t.swc.params = s.swc.params) : s.Stays t :=
  ⟨.inl h1, h2⟩

theorem StaysOr.refl (row : Prop) (s : State) : StaysOr row s s := ⟨.inl rfl, rfl⟩

theorem Stays.or {s t : State} (h : s.Stays t) (row : Prop) : StaysOr row s t := ⟨.inl (h.station.resolve_right id), h.params⟩

theorem halt_station (why : HaltReason) (s : State) : s.StaysOrHalts (s.halt why) := by
  rcases s.halt_cases why with ⟨st, hr, hs, e⟩ | ⟨e, -⟩ <;> rw [e]
  · exact ⟨.inr ⟨st, hr, hs, by simp⟩, by simp⟩
  · exact .refl _ s

theorem haltIfStopAll_station (why : HaltReason) (s : State) : s.StaysOrHalts (s.haltIfStopAll why) := by
  rcases s.haltIfStopAll_cases why with ⟨-, e⟩ | ⟨-, e⟩ <;> rw [e]
  · exact halt_station why s
  · exact .refl _ s

theorem takeStopSeen_station (s : State) : s.StaysOrHalts s.takeStopSeen := haltIfStopAll_station _ (s.setFlags _)

theorem takeShortHigh_station (s : State) : s.StaysOrHalts s.takeShortHigh := haltIfStopAll_station _ (s.mapLif _)

theorem takeSlotConflict_station (s : State) : s.StaysOrHalts s.takeSlotConflict := by
  unfold takeSlotConflict
  dsimp only
  split
  case h_4 => exact haltIfStopAll_station _ ((s.setFlags _).mapLif _)
  all_goals exact ⟨.inl rfl, rfl⟩

theorem takeQualifiedLow_station (s : State) : s.StaysOrHalts s.takeQualifiedLow := by
  unfold takeQualifiedLow
  split
  case h_7 =>
    split
    · exact takeStopSeen_station s
    · exact .refl _ s
  all_goals exact .refl _ s

theorem noteTaggedFrame_stays (s : State) : s.Stays s.noteTaggedFrame := by
  unfold noteTaggedFrame
  split <;> exact .of_eq rfl rfl

theorem takeCease_station (tag : Byte) (s : State) : s.StaysOrHalts (s.takeCease tag) := by
  unfold takeCease
  split
  · exact s.noteTaggedFrame_stays.or _
  · split
    · exact halt_station _ s
    · exact .refl _ s
  all_goals exact .refl _ s

theorem takePresent_station (src : Byte) (f : PresentFields) (s : State) : s.StaysOrHalts (s.takePresent src f) := by
  unfold takePresent
  split
  · exact s.noteTaggedFrame_stays.or _
  · split
    · exact .refl _ s
    · split
      · exact takeSlotConflict_station s
      · exact ⟨.inl rfl, rfl⟩
  · exact .refl _ s

theorem takeRecall_stays (f : RecallFields) (s : State) : s.Stays (s.takeRecall f) := by
  unfold takeRecall
  split <;> exact .of_eq rfl rfl

/-- R17, R46: an accepted BEGIN leads to MUSTER, or into a halt from it. -/
theorem acceptBegin_station (f : BeginFields) (s : State) :
    (s.acceptBegin f).swc.station = .inStage .muster ∨ (s.acceptBegin f).swc.station = .halted .muster := by
  unfold acceptBegin
  dsimp only
  split
  · rcases (s.openSweep f).refreshLamps.takeStopSeen_station.station with e | ⟨st, -, hs, e⟩
    · exact .inl e
    · cases hs
      exact .inr e
  · exact .inl rfl

theorem afterRemoval_station (e : Entry) (s : State) : s.StaysOrEnds (s.afterRemoval e) := by
  unfold afterRemoval
  split
  · rename_i st hs
    split
    · exact ⟨.inl rfl, rfl⟩
    · split
      · exact ⟨.inr ⟨⟨st, hs⟩, rfl, ‹_›⟩, rfl⟩
      · exact .refl _ s
  · exact ⟨.inl s.tryRelease_station, s.tryRelease_params⟩
  all_goals exact .refl _ s

theorem loseFrame_station (lf : LineFrame) (s : State) : s.StaysOrEnds (s.loseFrame lf) := by
  unfold loseFrame
  dsimp only
  split
  · exact afterRemoval_station lf.entry ((s.mapCfe _).mapCfe _)
  · exact ⟨.inl rfl, rfl⟩

/-- In DONE a slot conflict leaves the station state and the queue alone. -/
theorem takeSlotConflict_in_done {s : State} (h : s.swc.station = .done) :
    s.takeSlotConflict.swc.station = .done ∧ s.takeSlotConflict.swc.params = s.swc.params ∧
      s.takeSlotConflict.cfe = s.cfe := by
  simp [takeSlotConflict, h]

/-- What leaves the control items leaves the station state and the parameters. -/
theorem Stays.of_control {s t : State} (h : t.control = s.control) : s.Stays t :=
  .of_eq (congrArg Control.station h) (congrArg Control.params h)

end State

/-! ### The commands that may move the station state -/

/-- The commands that the table of 2.1 names. -/
def movesStation : Instr → Bool
  | .resetBegin | .resetEnd _ | .beginFrame _ _ | .ceaseFrame _ _ | .presentFrame _ _ | .frameComplete | .contentionLoss _ => true
  | .stopQualifiedLow | .barrierTaken | .barrierLimitExpiry | .roundEnd => true
  | _ => false

/-- A frame received in full is taken by the state its end leaves, or nothing but the receiver changes. -/
theorem receive_cases {ok : Bool} {take : State → State} {s t : State} (h : receive ok take s = .next t) :
    t = s ∨ (s.swc.station ≠ .reset ∧ s.cfe.receiver = .frame ∧
      (ok = false ∧ t = s.mapCfe Cfe.endFrame ∨ ok = true ∧ t = take (s.mapCfe Cfe.endFrame))) := by
  unfold receive at h
  split at h
  · rename_i hr
    cases ok <;> cases h <;> simp [hr]
  · cases h
    exact .inl rfl

/-- What a command that acts under a condition leaves. -/
theorem ite_next_cases {p : Prop} [Decidable p] {s t u : State}
    (h : (if p then .next u else .next s : Result) = .next t) : p ∧ t = u ∨ t = s := by
  split at h <;> cases h
  · exact .inl ⟨‹_›, rfl⟩
  · exact .inr rfl

/-- A received frame moves the station state as its taking does. -/
theorem receive_station {row : Prop} {ok : Bool} {take : State → State} {s t : State} (h : receive ok take s = .next t)
    (hk : t = take (s.mapCfe Cfe.endFrame) → State.StaysOr row s t) : State.StaysOr row s t := by
  rcases receive_cases h with rfl | ⟨-, -, ⟨-, rfl⟩ | ⟨-, e⟩⟩
  · exact .refl _ t
  · exact ⟨.inl rfl, rfl⟩
  · exact hk e

theorem ite_stays {p : Prop} [Decidable p] {s t u : State}
    (h : (if p then .next u else .next s : Result) = .next t) (hu : u.control = s.control) : s.Stays t := by
  rcases ite_next_cases h with ⟨-, rfl⟩ | rfl
  · exact .of_control hu
  · exact .refl _ t

/-- Every command but those of movesStation leaves the station state and the parameters. -/
theorem exec_stays {c : Instr} (hc : movesStation c = false) {s t : State} (h : exec c s = .next t) : s.Stays t := by
  cases c with
  | resetBegin | resetEnd | beginFrame | ceaseFrame | presentFrame | frameComplete | contentionLoss | stopQualifiedLow => cases hc
  | barrierTaken | barrierLimitExpiry | roundEnd => cases hc
  | recallFrame src f => exact receive_station h fun e => e ▸ State.takeRecall_stays f (s.mapCfe Cfe.endFrame)
  | lanerepReceived src p => exact receive_station h fun e => e ▸ State.noteTaggedFrame_stays (s.mapCfe Cfe.endFrame)
  | slotrepReceived src p => exact receive_station h fun e => e ▸ State.noteTaggedFrame_stays (s.mapCfe Cfe.endFrame)
  | busIdle => exact ite_stays h rfl
  | startBit => exact ite_stays h rfl
  | frameDrop d => cases d <;> exact ite_stays h rfl
  | frameStart =>
    simp only [exec, execFrameStart] at h
    split at h
    · cases h; exact .refl _ s
    · exact ite_stays h rfl
  | cbStopEdge l =>
    simp only [exec, execCbStopEdge] at h
    split at h <;> cases h <;> exact .of_eq rfl rfl
  | stopQualifiedHigh => exact ite_stays h rfl
  | cbStepEdge l =>
    simp only [exec, execCbStepEdge] at h
    split at h <;> cases h <;> exact .of_eq rfl rfl
  | holdOffExpiry =>
    simp only [exec, execHoldOffExpiry] at h
    split at h
    · split at h <;> cases h <;> exact .of_eq rfl rfl
    · cases h; exact .refl _ s
  | idleSecond =>
    simp only [exec, execIdleSecond] at h
    split at h
    · split at h <;> cases h <;> exact .of_eq rfl rfl
    · cases h; exact .refl _ s
  | stageLimitExpiry =>
    simp only [exec, execStageLimitExpiry] at h
    split at h
    · split at h <;> cases h <;> exact .of_control (by simp)
    · cases h; exact .refl _ s
  | musterDoubleLimit =>
    simp only [exec, execMusterDoubleLimit] at h
    split at h
    · split at h <;> cases h <;> exact .of_control (by simp)
    · cases h; exact .refl _ s
  | settleDelayExpiry =>
    simp only [exec, execSettleDelayExpiry] at h
    split at h
    · split at h <;> cases h <;> exact .of_eq rfl rfl
    · cases h; exact .refl _ s
  | probeCurrentOn =>
    simp only [exec, execProbeCurrentOn] at h
    split at h <;> cases h <;> exact .of_eq rfl rfl
  | probeCurrentOff =>
    simp only [exec, execProbeCurrentOff] at h
    split at h <;> cases h <;> exact .of_eq rfl rfl
  | probeReferenceReading v =>
    simp only [exec, execProbeReferenceReading] at h
    split at h
    · exact ite_stays h rfl
    all_goals cases h; exact .refl _ s
  | probeSample v =>
    simp only [exec, execProbeSample] at h
    split at h
    · exact ite_stays h rfl
    all_goals cases h; exact .refl _ s
  | tokenPeriodStart d =>
    simp only [exec, execTokenPeriodStart] at h
    split at h <;> cases h <;> exact .of_eq rfl rfl
  | clockAcquired d => exact ite_stays h rfl
  | acquisitionTimeout d => exact ite_stays h (by simp)
  | searchSuccess d f1 f2 seed next =>
    simp only [exec, execSearchSuccess] at h
    split at h
    · split at h <;> cases h <;> exact .of_control (by simp)
    · cases h; exact .refl _ s
  | searchTimeout d => exact ite_stays h (by simp)
  | tokenBlockEnd d m w =>
    simp only [exec, execTokenBlockEnd] at h
    split at h
    · split at h
      · split at h <;> cases h <;> exact .of_control (by simp)
      · split at h
        · split at h <;> cases h <;> exact .of_control (by simp)
        · split at h <;> cases h <;> exact .of_control (by simp)
    · cases h; exact .refl _ s
  | clockLoss d =>
    simp only [exec, execClockLoss] at h
    split at h <;> cases h <;> exact .of_control (by simp)
  | retrainTimerExpiry d => exact ite_stays h rfl
  | comparedBit d received monitor => cases h; exact .of_control (by simp)
  | pointEnd b => cases h; exact .of_control (by simp)
  | lampBlinkToggle => cases h; exact .of_eq rfl rfl

/-! ### The commands that move it -/

/-- R17: a BEGIN is taken in LISTEN and DONE, and stored in BARRED. -/
theorem execBegin_station {src : Byte} {f : BeginFields} {s t : State} (h : execBegin src f s = .next t) :
    s.Stays t ∨ (s.swc.station = .barred ∧ t.swc.station = .barred) ∨ (s.swc.station = .listen ∨ s.swc.station = .done) ∧
      (t.swc.station = .inStage .muster ∨ t.swc.station = .halted .muster) := by
  rcases receive_cases h with rfl | ⟨-, -, ⟨-, rfl⟩ | ⟨-, rfl⟩⟩
  · exact .inl (.refl _ t)
  · exact .inl (.of_eq rfl rfl)
  · unfold State.takeBegin
    split
    case h_1 hs => exact .inr (.inr ⟨.inl hs, State.acceptBegin_station f _⟩)
    case h_2 hs => exact .inr (.inr ⟨.inr hs, State.acceptBegin_station f _⟩)
    case h_3 hs => exact .inr (.inl ⟨hs, hs⟩)
    all_goals exact .inl (.of_eq rfl rfl)

theorem execCease_station {src tag : Byte} {s t : State} (h : execCease src tag s = .next t) : s.StaysOrHalts t :=
  receive_station h fun e => e ▸ State.takeCease_station tag (s.mapCfe Cfe.endFrame)

theorem execPresent_station {src : Byte} {f : PresentFields} {s t : State} (h : execPresent src f s = .next t) :
    s.StaysOrHalts t :=
  receive_station h fun e => e ▸ State.takePresent_station src f (s.mapCfe Cfe.endFrame)

theorem execFrameComplete_station {s t : State} (h : execFrameComplete s = .next t) : s.StaysOrEnds t := by
  unfold execFrameComplete at h
  split at h <;> cases h
  · exact .refl _ s
  · exact State.afterRemoval_station _ (s.mapCfe _)

/-- R172, R173: a loss may end HALTED with its frame, or halt the station by a slot conflict. -/
theorem execContentionLoss_station {n : Nat} {s t : State} (h : execContentionLoss n s = .next t) :
    s.StaysOrHalts t ∨ s.StaysOrEnds t := by
  unfold execContentionLoss at h
  split at h
  · cases h; exact .inl (.refl _ s)
  · rename_i lf _
    split at h
    · have hl := s.loseFrame_station lf
      split at h <;> cases h
      · rcases hl.station with e | ⟨hs, hd, hq⟩
        · have hk := (s.loseFrame lf).takeSlotConflict_station
          exact .inl ⟨by rw [← e]; exact hk.station, hk.params.trans hl.params⟩
        · obtain ⟨h1, h2, h3⟩ := State.takeSlotConflict_in_done hd
          exact .inr ⟨.inr ⟨hs, h1, by rw [h3, hq]⟩, h2.trans hl.params⟩
      · exact .inr hl
    · cases h; exact .inl (.refl _ s)

theorem execRoundEnd_station {s t : State} (h : execRoundEnd s = .next t) : s.StaysOrHalts t := by
  unfold execRoundEnd at h
  split at h
  · split at h
    · cases h
      rw [State.StaysOrHalts]
      refine ⟨?_, ?_⟩
      · rw [State.tryRelease_station]
        split
        · exact (State.takeShortHigh_station ((s.writeFindings _).setSpu _)).station
        · exact .inl rfl
      · rw [State.tryRelease_params]
        split
        · exact (State.takeShortHigh_station ((s.writeFindings _).setSpu _)).params
        · rfl
    · cases h; exact .refl _ s
  all_goals cases h; exact .refl _ s

/-- R20, R39: a barrier leads from a released stage into the next one, or into DONE. -/
theorem execBarrierTaken_station {s t : State} (h : execBarrierTaken s = .next t) :
    State.StaysOr (s.swc.released = true ∧ ∃ st, s.swc.station = .inStage st ∧
      ((∃ st', st.next = some st' ∧ t.swc.station = .inStage st') ∨ st = .report ∧ t.swc.station = .done)) s t := by
  unfold execBarrierTaken at h
  split at h
  · rename_i hg
    obtain ⟨-, -, hr⟩ := hg
    split at h
    · rename_i st hs
      split at h <;> cases h
      · exact ⟨.inr ⟨hr, st, hs, .inl ⟨_, ‹_›, by simp⟩⟩, by simp⟩
      · exact ⟨.inr ⟨hr, st, hs, .inr ⟨Stage.next_eq_none ‹_›, rfl⟩⟩, rfl⟩
    all_goals cases h; exact .refl _ s
  · cases h; exact .refl _ s

/-- R42: the barrier limit ends REPORT, or halts a station of another stage. -/
theorem execBarrierLimitExpiry_station {s t : State} (h : execBarrierLimitExpiry s = .next t) :
    s.StaysOrHalts t ∨ State.StaysOr (s.swc.released = true ∧ s.swc.station = .inStage .report ∧ t.swc.station = .done) s t := by
  unfold execBarrierLimitExpiry at h
  split at h
  · rename_i hg
    obtain ⟨-, -, hr⟩ := hg
    split at h <;> cases h
    · exact .inr ⟨.inr ⟨hr, ‹_›, rfl⟩, rfl⟩
    · exact .inl (State.halt_station _ ((s.setFlags _).mapLif _))
    all_goals exact .inl (.refl _ s)
  · cases h; exact .inl (.refl _ s)

theorem execStopQualifiedLow_station {s t : State} (h : execStopQualifiedLow s = .next t) : s.StaysOrHalts t := by
  rcases ite_next_cases h with ⟨-, rfl⟩ | rfl
  · exact State.takeQualifiedLow_station (s.mapLif _)
  · exact .refl _ t

end Sys2Proof.Machine

namespace Sys2Proof.Proofs
open Sys2Proof.Machine

/-- Settles O8: movesStation lists the commands that move the station state, and each of them moves it as its lemma says. -/
theorem stationTransitions : Obligations.StationTransitions := by
  intro c s t h
  by_cases hc : movesStation c = false
  · exact .inl ((exec_stays hc h).station.resolve_right id)
  cases c with
  | resetBegin => cases h; exact .inr (.inl ⟨rfl, rfl⟩)
  | resetEnd st =>
    by_cases hs : s.swc.station = .reset
    · rw [exec_resetEnd hs] at h
      cases h
      refine .inr (.inr (.inl ⟨hs, ⟨st, rfl⟩, ?_⟩))
      rw [State.resetEnded_station]
      split
      · exact .inr rfl
      · exact .inl rfl
    · rw [exec_resetEnd_outside hs] at h
      cases h
      exact .inl rfl
  | beginFrame src f =>
    rcases execBegin_station h with e | ⟨hs, ht⟩ | ⟨hs, ht⟩
    · exact .inl (e.station.resolve_right id)
    · exact .inl (ht.trans hs.symm)
    · exact .inr (.inr (.inr (.inl ⟨hs, ⟨src, f, rfl⟩, ht⟩)))
  | ceaseFrame src tag =>
    exact (execCease_station h).station.imp_right fun ⟨st, hr, hs, ht⟩ =>
      .inr (.inr (.inr (.inr (.inr (.inl ⟨st, hr, hs, ht, by simp⟩)))))
  | presentFrame src f =>
    exact (execPresent_station h).station.imp_right fun ⟨st, hr, hs, ht⟩ =>
      .inr (.inr (.inr (.inr (.inr (.inl ⟨st, hr, hs, ht, by simp⟩)))))
  | frameComplete =>
    exact (execFrameComplete_station h).station.imp_right fun ⟨hs, ht, hq⟩ =>
      .inr (.inr (.inr (.inr (.inr (.inr ⟨hs, ht, hq, by simp⟩)))))
  | contentionLoss n =>
    rcases execContentionLoss_station h with e | e
    · exact e.station.imp_right fun ⟨st, hr, hs, ht⟩ =>
        .inr (.inr (.inr (.inr (.inr (.inl ⟨st, hr, hs, ht, by simp⟩)))))
    · exact e.station.imp_right fun ⟨hs, ht, hq⟩ => .inr (.inr (.inr (.inr (.inr (.inr ⟨hs, ht, hq, by simp⟩)))))
  | stopQualifiedLow =>
    exact (execStopQualifiedLow_station h).station.imp_right fun ⟨st, hr, hs, ht⟩ =>
      .inr (.inr (.inr (.inr (.inr (.inl ⟨st, hr, hs, ht, by simp⟩)))))
  | roundEnd =>
    exact (execRoundEnd_station h).station.imp_right fun ⟨st, hr, hs, ht⟩ =>
      .inr (.inr (.inr (.inr (.inr (.inl ⟨st, hr, hs, ht, by simp⟩)))))
  | barrierTaken =>
    refine (execBarrierTaken_station h).station.imp_right fun ⟨hr, st, hs, e⟩ =>
      .inr (.inr (.inr (.inl ⟨rfl, hr, ?_⟩)))
    rcases e with ⟨st', hn, ht⟩ | ⟨rfl, ht⟩
    · cases st <;> cases hn <;> simp [hs, ht]
    · simp [hs, ht]
  | barrierLimitExpiry =>
    rcases execBarrierLimitExpiry_station h with e | e
    · exact e.station.imp_right fun ⟨st, hr, hs, ht⟩ =>
        .inr (.inr (.inr (.inr (.inr (.inl ⟨st, hr, hs, ht, by simp⟩)))))
    · exact e.station.imp_right fun ⟨hr, hs, ht⟩ => .inr (.inr (.inr (.inr (.inl ⟨rfl, hr, hs, ht⟩))))
  | _ => exact absurd rfl hc

end Sys2Proof.Proofs
end

section
/-! SUPPORT. The start of a reset and the received frames (R13, R15 to R19, R29 to R33, R55 to R58, R167, R168, R170). Settles O3 and
O9 to O13. -/
namespace Sys2Proof.Machine

/-- R166: nothing is received while reset is held. -/
theorem receive_in_reset {ok : Bool} {take : State → State} {s : State} (h : s.swc.station = .reset) :
    receive ok take s = .next s := receive_outside (by simp [h])

/-- R168: an accepted frame is taken by the state its end leaves. -/
theorem receive_taken {ok : Bool} {take : State → State} {s : State} (h : s.swc.station ≠ .reset) (hr : s.cfe.receiver = .frame)
    (hok : ok = true) : receive ok take s = .next (take s.afterFrame) := by
  subst hok
  rw [(receive_inside h hr).1, endFrame_outcome]

/-- R168: a frame that fails a check is dropped. -/
theorem receive_dropped {take : State → State} {s : State} (h : s.swc.station ≠ .reset) (hr : s.cfe.receiver = .frame) :
    receive false take s = .next s.afterFrame := by
  rw [(receive_inside h hr).2, endFrame_outcome]

/-- A frame whose taking changes nothing leaves the end of a frame, accepted or not. -/
theorem receive_ignored {ok : Bool} {take : State → State} {s : State} (h : s.swc.station ≠ .reset) (hr : s.cfe.receiver = .frame)
    (hk : take s.afterFrame = s.afterFrame) : receive ok take s = .next s.afterFrame := by
  cases ok
  · exact receive_dropped h hr
  · rw [receive_taken h hr rfl, hk]

/-- Each of the six frames is received, with the operand checks of wellFormed. -/
theorem exec_frame {c : Instr} (h : isFrame c = true) : ∃ take, ∀ s, exec c s = receive c.wellFormed take s := by
  cases c with
  | beginFrame src f => exact ⟨_, fun _ => rfl⟩
  | ceaseFrame src tag => exact ⟨_, fun _ => rfl⟩
  | presentFrame src f => exact ⟨_, fun _ => rfl⟩
  | recallFrame src f => exact ⟨_, fun _ => rfl⟩
  | lanerepReceived src p => exact ⟨_, fun _ => rfl⟩
  | slotrepReceived src p => exact ⟨_, fun _ => rfl⟩
  | _ => cases h

theorem srcOk_of_le {src : Byte} (h : src.toNat ≤ 16) : srcOk src = true := decide_eq_true h

namespace State

@[simp] theorem afterFrame_identity (s : State) : s.afterFrame.identity = s.identity := rfl
@[simp] theorem afterFrame_swc (s : State) : s.afterFrame.swc = s.swc := rfl
@[simp] theorem afterFrame_lif (s : State) : s.afterFrame.lif = s.lif := rfl
@[simp] theorem afterFrame_stopAll (s : State) : s.afterFrame.stopAll = s.stopAll := rfl

/-! ### BEGIN -/

/-- R18, R158: the state an accepted BEGIN leaves, before the stop level is looked at. -/
theorem openSweep_outcome (f : BeginFields) (s : State) : (s.openSweep f).refreshLamps = s.sweepOpened f := by
  have hl : (Params.ofBegin f).stageLimit .muster = .running (1000 * (Params.ofBegin f).musterMs) := by
    simp [Params.stageLimit, msToUs, Nat.mul_comm]
  simp only [refreshLamps, lampPatterns, openSweep, sweepOpened, hl, Lif.pullStep, StationFlags.clear, Emn.initial, Lamp.take]

/-- What an accepted BEGIN leaves does not depend on the frame engine. -/
theorem sweepOpened_afterFrame (f : BeginFields) (s : State) : s.afterFrame.sweepOpened f = s.sweepOpened f := rfl

/-- R46: a BEGIN accepted with no stop level already qualified. -/
theorem acceptBegin_outcome {s : State} (h : ¬(s.lif.stopQualified = some .low ∧ s.lif.stopDrive = .released)) (f : BeginFields) :
    s.acceptBegin f = s.sweepOpened f := by
  have hs : (s.sweepOpened f).stopSeenHolds = false := by
    by_contra e
    exact h (by simpa [stopSeenHolds, sweepOpened] using e)
  simp only [acceptBegin, openSweep_outcome, hs, Bool.false_eq_true, if_false]

/-- R46: a BEGIN accepted with the stop level already qualified low. -/
theorem acceptBegin_stopSeen {s : State} (hq : s.lif.stopQualified = some .low) (hd : s.lif.stopDrive = .released)
    (f : BeginFields) : s.acceptBegin f = (s.sweepOpened f).takeStopSeen := by
  have hs : (s.sweepOpened f).stopSeenHolds = true := by simp [stopSeenHolds, sweepOpened, hq, hd]
  simp only [acceptBegin, openSweep_outcome, hs, if_true]

theorem execBegin_accepted {src : Byte} {f : BeginFields} {s : State} (hsrc : src.toNat ≤ 16)
    (hs : s.swc.station = .listen ∨ s.swc.station = .done) (hr : s.cfe.receiver = .frame) :
    exec (.beginFrame src f) s = .next (s.afterFrame.acceptBegin f) := by
  refine (receive_taken (by rcases hs with hs | hs <;> simp [hs]) hr (srcOk_of_le hsrc)).trans ?_
  rcases hs with hs | hs <;> simp [takeBegin, hs]

/-- R29: a stop seen under CONTINUE sets its flag alone; under STOP_ALL it halts the stage. -/
theorem takeStopSeen_outcome {s u : State} {st : Stage} (hs : s.swc.station = .inStage st) (hst : st ≠ .report)
    (hu : u = { s with swc := { s.swc with flags := { s.swc.flags with stopSeen := true } } }) :
    (s.stopAll = false → s.takeStopSeen = u) ∧ (s.stopAll = true → u.HaltedFrom .stopSeen st s.takeStopSeen) := by
  subst hu
  refine ⟨fun h => ?_, fun h => ?_⟩
  · exact if_neg (by simp [h])
  · rw [takeStopSeen, haltIfStopAll, if_pos (by simpa using h)]
    exact halt_outcome (s := s.setFlags fun f => { f with stopSeen := true }) hs hst _

/-- R19: a clamped field is stored as the statements write it. -/
theorem clamp_storedIn {lo hi : Nat} (h : lo ≤ hi) (x : Nat) : StoredIn lo hi x (clamp lo hi x) := by
  unfold StoredIn clamp
  omega

/-- R19: an accepted BEGIN stores its clamped fields, halted in the same event or not. -/
theorem acceptBegin_params (f : BeginFields) (s : State) : (s.acceptBegin f).swc.params = Params.ofBegin f := by
  unfold acceptBegin
  dsimp only
  split
  · exact (takeStopSeen_station _).params
  · rfl

/-! ### The frames that are ignored, and the halt of a CEASE -/

/-- R15, R158: a tagged frame in LISTEN. -/
theorem noteTaggedFrame_outcome {s : State} (h : s.swc.station = .listen) : s.noteTaggedFrame = { s with
    swc := { s.swc with foreignSweep := true, lampOk := .off, lampFlt := s.swc.lampFlt.take (.blink .oneHz) } } := by
  rw [noteTaggedFrame, if_pos h]
  simp [setForeign, refreshLamps, lampPatterns, mapSwc, h, Lamp.take]

theorem noteTaggedFrame_ignored {s : State} (h : s.swc.station ≠ .listen) : s.noteTaggedFrame = s := if_neg h

theorem takeBegin_ignored {s : State} {st : Stage} (h : s.swc.station = .inStage st ∨ s.swc.station = .halted st) (f : BeginFields) :
    s.takeBegin f = s := by
  rcases h with h | h <;> simp [takeBegin, h]

theorem takeCease_ignored {s : State} {tag : Byte} (h : s.swc.station = .inStage .report ∨ (∃ st, s.swc.station = .halted st) ∨
    s.swc.station = .done ∨ s.swc.station = .barred ∨ ((∃ st, s.swc.station = .inStage st) ∧ tag ≠ s.swc.params.tag)) :
    s.takeCease tag = s := by
  rcases h with h | ⟨st, h⟩ | h | h | ⟨⟨st, h⟩, ht⟩
  case inr.inr.inr.inr => simp [takeCease, h, ht]
  all_goals simp [takeCease, halt, h]

theorem takePresent_ignored {s : State} {src : Byte} {f : PresentFields} (h : (∃ st, st ≠ .muster ∧ s.swc.station = .inStage st) ∨
    (∃ st, s.swc.station = .halted st) ∨ s.swc.station = .done ∨ s.swc.station = .barred ∨
      (s.swc.station = .inStage .muster ∧ (src = 0 ∨ f.tag ≠ s.swc.params.tag))) : s.takePresent src f = s := by
  rcases h with ⟨st, hm, h⟩ | ⟨st, h⟩ | h | h | ⟨h, ht⟩
  case inr.inr.inr.inr =>
    have ht' : src.toNat = 0 ∨ f.tag ≠ s.swc.params.tag := ht.imp_left fun e => by rw [e]; rfl
    cases hi : s.identity <;> simp only [takePresent, h, hi, ht', if_true]
  case inl => cases st <;> simp [takePresent, h] at hm ⊢
  all_goals simp [takePresent, h]

theorem takeCease_halts {s : State} {st : Stage} (hs : s.swc.station = .inStage st) : s.takeCease s.swc.params.tag = s.halt .ceased := by
  simp [takeCease, hs]

end State

/-- R19: no command but BEGIN and the start of a reset changes a stored parameter. -/
theorem exec_params_kept {c : Instr} {s t : State} (hc : c ≠ .resetBegin)
    (hb : (∃ src f, c = .beginFrame src f) → s.swc.station ≠ .listen ∧ s.swc.station ≠ .done ∧ s.swc.station ≠ .barred)
    (h : exec c s = .next t) : t.swc.params = s.swc.params := by
  by_cases hm : movesStation c = false
  · exact (exec_stays hm h).params
  cases c with
  | resetBegin => exact absurd rfl hc
  | resetEnd st =>
    rcases ite_next_cases h with ⟨-, rfl⟩ | rfl <;> rfl
  | beginFrame src f =>
    obtain ⟨h1, h2, h3⟩ := hb ⟨src, f, rfl⟩
    rcases execBegin_station h with e | ⟨e, -⟩ | ⟨e | e, -⟩
    · exact e.params
    · exact absurd e h3
    · exact absurd e h1
    · exact absurd e h2
  | ceaseFrame src tag => exact (execCease_station h).params
  | presentFrame src f => exact (execPresent_station h).params
  | frameComplete => exact (execFrameComplete_station h).params
  | contentionLoss n => rcases execContentionLoss_station h with e | e <;> exact e.params
  | stopQualifiedLow => exact (execStopQualifiedLow_station h).params
  | roundEnd => exact (execRoundEnd_station h).params
  | barrierTaken => exact (execBarrierTaken_station h).params
  | barrierLimitExpiry => rcases execBarrierLimitExpiry_station h with e | e <;> exact e.params
  | _ => exact absurd rfl hm

end Sys2Proof.Machine

namespace Sys2Proof.Proofs
open Sys2Proof.Machine

/-- Settles O3: the state of resetBegun written out; in RESET no frame is received and no frame engine event acts. -/
theorem resetBeginClears : Obligations.ResetBeginClears := by
  refine ⟨fun s => rfl, fun c s hs hc => ?_⟩
  rcases hc with hf | rfl | rfl | rfl | ⟨d, rfl⟩
  · obtain ⟨take, e⟩ := exec_frame hf
    rw [e, receive_in_reset hs]
  · exact if_neg (by simp [hs])
  · exact if_neg (by simp [hs])
  · simp only [exec, execFrameStart]
    split
    · rfl
    · exact if_neg (by simp [hs])
  · cases d <;> exact if_neg (by simp [hs])

/-- Settles O9: an accepted BEGIN leaves sweepOpened, and a stop level already qualified low is then a stop seen in MUSTER. -/
theorem beginOpensSweep : Obligations.BeginOpensSweep := by
  refine ⟨fun src f s hsrc hs hr hq => ?_, fun src f s u hsrc hs hr hq hd hu => ?_⟩
  · rw [State.execBegin_accepted hsrc hs hr, State.acceptBegin_outcome (s := s.afterFrame) hq, State.sweepOpened_afterFrame]
  · rw [State.execBegin_accepted hsrc hs hr, State.acceptBegin_stopSeen (s := s.afterFrame) hq hd, State.sweepOpened_afterFrame]
    obtain ⟨hgo, hhalt⟩ := State.takeStopSeen_outcome (s := s.sweepOpened f) (st := .muster) rfl (by simp) hu
    exact ⟨fun h => by rw [hgo h], fun h => ⟨_, rfl, hhalt h⟩⟩

/-- Settles O10: each field is clamped, and exec_params_kept goes through the other commands. -/
theorem beginFieldsClamped : Obligations.BeginFieldsClamped := by
  refine ⟨fun src f s hsrc hs hr => ⟨_, State.execBegin_accepted hsrc hs hr, ?_⟩, fun c s t hc hb h => exec_params_kept hc hb h⟩
  rw [State.acceptBegin_params]
  exact ⟨rfl, State.clamp_storedIn (by decide) _, State.clamp_storedIn (by decide) _, State.clamp_storedIn (by decide) _,
    State.clamp_storedIn (by decide) _, State.clamp_storedIn (by decide) _, State.clamp_storedIn (by decide) _,
    State.clamp_storedIn (by decide) _, State.clamp_storedIn (by decide) _, State.clamp_storedIn (by decide) _,
    State.clamp_storedIn (by decide) _, State.clamp_storedIn (by decide) _, State.clamp_storedIn (by decide) _,
    State.clamp_storedIn (by decide) _, State.clamp_storedIn (by decide) _⟩

/-- Settles O11: in BARRED the tag is stored and a SLOTREP queued. -/
theorem beginInBarred : Obligations.BeginInBarred := by
  intro src f s hsrc hs hr
  have e : s.afterFrame.takeBegin f = s.afterFrame.barredBegin f := by simp [State.takeBegin, hs]
  exact (receive_taken (by simp [hs]) hr (srcOk_of_le hsrc)).trans (congrArg Host.Outcome.next e)

/-- Settles O13: a CEASE with the current tag is a halt of the stage. -/
theorem ceaseHalts : Obligations.CeaseHalts := by
  intro src st s hsrc hr hst hs
  refine ⟨_, receive_taken (by simp [hs]) hr (srcOk_of_le hsrc), ?_⟩
  have e := State.takeCease_halts (s := s.afterFrame) hs
  rw [State.afterFrame_swc] at e
  rw [e]
  exact halt_outcome (s := s.afterFrame) hs hst _

/-- Settles O12: the frame of each command is received, and its taking changes nothing but in LISTEN. -/
theorem framesWithoutEffect : Obligations.FramesWithoutEffect := by
  refine ⟨fun c s hf hr => ?_, fun c s hr hs ht hw => ?_, fun c s hr hs hf hw => ?_, fun src f s st hr hs => ?_,
    fun src tag s hr hs => ?_, fun src f s hr hs => ?_, fun c s hr hs hl hc => ?_⟩
  · obtain ⟨take, e⟩ := exec_frame hf
    rw [e, receive_outside (by simp [hr])]
  · have hn : s.swc.station ≠ .reset := by simp [hs]
    refine Eq.trans ?_ (congrArg Host.Outcome.next (State.noteTaggedFrame_outcome (s := s.afterFrame) hs))
    cases c with
    | ceaseFrame src tag =>
      exact (receive_taken hn hr hw).trans (by simp [State.takeCease, hs])
    | presentFrame src f =>
      exact (receive_taken hn hr hw).trans (by simp [State.takePresent, hs])
    | lanerepReceived src p => exact receive_taken hn hr hw
    | slotrepReceived src p => exact receive_taken hn hr hw
    | _ => cases ht
  · obtain ⟨take, e⟩ := exec_frame hf
    rw [e, hw, receive_dropped hs hr]
  · exact receive_ignored (by rcases hs with hs | hs <;> simp [hs]) hr (State.takeBegin_ignored (s := s.afterFrame) hs f)
  · refine receive_ignored ?_ hr (State.takeCease_ignored (s := s.afterFrame) hs)
    rcases hs with hs | ⟨st, hs⟩ | hs | hs | ⟨⟨st, hs⟩, -⟩ <;> simp [hs]
  · refine receive_ignored ?_ hr (State.takePresent_ignored (s := s.afterFrame) hs)
    rcases hs with ⟨st, -, hs⟩ | ⟨st, hs⟩ | hs | hs | ⟨hs, -⟩ <;> simp [hs]
  · rcases hc with ⟨src, p, rfl⟩ | ⟨src, p, rfl⟩
    · exact receive_ignored hs hr (State.noteTaggedFrame_ignored (s := s.afterFrame) hl)
    · exact receive_ignored hs hr (State.noteTaggedFrame_ignored (s := s.afterFrame) hl)

end Sys2Proof.Proofs
end

section
/-! SUPPORT. The release condition of each stage (R22 to R27), the lines, the limits of MUSTER and REPORT, and the probe's readings.
Settles O22, O26 to O29 and O32. -/
namespace Sys2Proof.Machine

namespace State

/-! ### The release condition -/

theorem allInUse_iff (p : Channel → Bool) (s : State) : s.allInUse p = true ↔ ∀ c, s.inUse c = true → p (s.chan c) = true := by
  simp [allInUse]

theorem anyInUse_iff (p : Channel → Bool) (s : State) : s.anyInUse p = true ↔ ∃ c, s.inUse c = true ∧ p (s.chan c) = true := by
  simp [anyInUse]

theorem releaseReady_muster {s : State} (h : s.swc.station = .inStage .muster) :
    s.releaseReady = true ↔ s.swc.limitExpired = true ∧ Entry.present ∉ s.cfe.queue := by
  simp [releaseReady, h]

theorem releaseReady_static {s : State} (h : s.swc.station = .inStage .static) : s.releaseReady = true ↔ s.spu = .finished := by
  simp [releaseReady, h]

theorem releaseReady_identify {s : State} (h : s.swc.station = .inStage .identify) :
    s.releaseReady = true ↔ ∀ c, s.inUse c = true → (s.chan c).ident.state = .settled := by
  rw [releaseReady, h]
  simp [allInUse_iff]

theorem releaseReady_soak {s : State} (h : s.swc.station = .inStage .soak) :
    s.releaseReady = true ↔ ∀ c, s.inUse c = true → (s.chan c).soak.state = .settled := by
  rw [releaseReady, h]
  simp [allInUse_iff]

theorem releaseReady_stress {s : State} (h : s.swc.station = .inStage .stress) :
    s.releaseReady = true ↔
      ∀ c, s.inUse c = true → (s.chan c).stress.state = .settled ∧ (s.chan c).scan.state = .settled := by
  rw [releaseReady, h]
  simp [allInUse_iff]

theorem releaseReady_report {s : State} (h : s.swc.station = .inStage .report) :
    s.releaseReady = true ↔ s.cfe.queue = [] := by
  simp [releaseReady, h]

/-- Outside the six stages nothing is to be released. -/
theorem releaseReady_outside {s : State} (h : s.swc.station.inSomeStage = false) : s.releaseReady = false := by
  unfold releaseReady
  cases hs : s.swc.station with
  | inStage st => rw [hs] at h; cases h
  | _ => rfl

/-- A release attempt in MUSTER. -/
theorem tryRelease_muster {s : State} (h : s.swc.station = .inStage .muster) : s.tryRelease =
    if s.lif.phase = .holding ∧ s.swc.released = false ∧ s.swc.limitExpired = true ∧ Entry.present ∉ s.cfe.queue
    then s.stageReleased else s := by
  simp only [tryRelease_outcome, releaseReady_muster h]

/-- A release attempt in REPORT. -/
theorem tryRelease_report {s : State} (h : s.swc.station = .inStage .report) : s.tryRelease =
    if s.lif.phase = .holding ∧ s.swc.released = false ∧ s.cfe.queue = [] then s.stageReleased else s := by
  simp only [tryRelease_outcome, releaseReady_report h]

/-! ### Limits -/

theorem markLimit_muster {s : State} (h : s.swc.station = .inStage .muster) :
    s.markLimit = { s with swc := { s.swc with limitExpired := true } } := by
  simp [markLimit, mapSwc, h]

theorem markLimit_stops {s : State} (h : s.swc.station ≠ .inStage .muster) :
    s.markLimit = { s with swc := { s.swc with limitExpired := true, stageTimer := .stopped } } := by
  simp [markLimit, mapSwc, h]

/-- R161: with no frame on the line nothing stays in the queue. -/
theorem keepOnlyLine_none {f : Cfe} (h : f.onLine = none) : f.keepOnlyLine = { f with queue := [] } := by
  simp [Cfe.keepOnlyLine, h]

theorem keepOnlyLine_some {f : Cfe} {lf : LineFrame} (h : f.onLine = some lf) :
    f.keepOnlyLine = { f with queue := [lf.entry], onLine := some { lf with dropOnLoss := true } } := by
  simp [Cfe.keepOnlyLine, h]

/-! ### The stop line -/

/-- R46 to R48: where a qualified low is taken. -/
theorem takeQualifiedLow_ignored {s : State} (h : (∀ st, s.swc.station = .inStage st → st = .report) ∨ s.stopSeenHolds = false) :
    s.takeQualifiedLow = s := by
  unfold takeQualifiedLow
  split
  case h_7 st hr hs =>
    rcases h with h | h
    · exact absurd (h st hs) (by simpa using hr)
    · simp [h]
  all_goals rfl

theorem takeQualifiedLow_stage {s : State} {st : Stage} (hs : s.swc.station = .inStage st) (hst : st ≠ .report)
    (hd : s.stopSeenHolds = true) : s.takeQualifiedLow = s.takeStopSeen := by
  unfold takeQualifiedLow
  cases st <;> simp_all

/-! ### The terminations -/

theorem rxTerminated_iff (s : State) (c : Chan) : s.rxTerminated c = true ↔ s.inUse c = true ∧
    (s.swc.station = .inStage .static ∨ s.swc.station = .inStage .identify ∨ s.swc.station = .inStage .soak ∨
      s.swc.station = .inStage .stress) := by
  unfold rxTerminated
  cases hs : s.swc.station with
  | inStage st => cases st <;> simp
  | _ => simp

theorem txTerminated_iff (s : State) (c : Chan) : s.txTerminated c = true ↔
    s.inUse c = true ∧ (s.chan c).static.barred = false ∧ s.swc.station = .inStage .static := by
  unfold txTerminated
  cases hs : s.swc.station with
  | inStage st => cases st <;> simp
  | _ => simp

end State

/-- R66: the levels sensed, as the statements write them. -/
theorem senseWhere_eq (sensed : Chan → Bool) (levels : Vector MicroVolts 32) :
    senseWhere sensed levels = Vector.ofFn fun c => if sensed c = true then some levels[c.val] else none := rfl

theorem State.watched_iff (s : State) (r c : Chan) : s.watched r c = true ↔ s.inUse c = true ∧ c ≠ r := by
  simp [State.watched]

end Sys2Proof.Machine

namespace Sys2Proof.Proofs
open Sys2Proof.Machine

/-- Settles O22: a timed low run qualifies, and takeQualifiedLow is the stop seen in MUSTER..STRESS alone. -/
theorem qualifiedLowTaken : Obligations.QualifiedLowTaken := by
  intro s q seen hrun hlow hq hseen
  have hexec : exec .stopQualifiedLow s = .next q.takeQualifiedLow := by
    refine (if_pos ⟨hrun, hlow⟩).trans ?_
    rw [hq, ← hlow]
    rfl
  have hqs : q.swc = s.swc ∧ q.lif.stopDrive = s.lif.stopDrive ∧ q.lif.stopQualified = some .low := by
    subst hq; exact ⟨rfl, rfl, rfl⟩
  obtain ⟨hswc, hdrive, hqual⟩ := hqs
  have hall : q.stopAll = s.stopAll := by subst hq; rfl
  refine ⟨fun h => ?_, fun h => ?_, fun st hs hst hd => ?_⟩
  · rw [hexec, State.takeQualifiedLow_ignored (.inl (by rwa [hswc]))]
  · rw [hexec, State.takeQualifiedLow_ignored (.inr (by simp [State.stopSeenHolds, hdrive, h]))]
  · rw [hexec, State.takeQualifiedLow_stage (by rwa [hswc]) hst (by simp [State.stopSeenHolds, hdrive, hqual, hd]), ← hall]
    obtain ⟨hgo, hhalt⟩ := State.takeStopSeen_outcome (s := q) (by rwa [hswc]) hst hseen
    exact ⟨fun h => by rw [hgo h], fun h => ⟨_, rfl, hhalt h⟩⟩

/-- Settles O26: the two ends of the hold-off, and the release condition stage by stage. -/
theorem holdOffAndRelease : Obligations.HoldOffAndRelease := by
  refine ⟨fun s hp ht => ⟨fun hr => ?_, fun hr => ?_⟩, fun s => ⟨State.releaseReady_muster, State.releaseReady_static,
    State.releaseReady_identify, State.releaseReady_soak, State.releaseReady_stress, State.releaseReady_report⟩⟩
  · refine (if_pos ⟨hp, ht⟩).trans ?_
    rw [hr]
    rfl
  · refine (if_pos ⟨hp, ht⟩).trans ?_
    rw [hr, if_pos rfl, release_outcome]

/-- Settles O27: the stall is DONE from REPORT and a halt with CB_STOP pulled elsewhere. -/
theorem barrierLimitStalls : Obligations.BarrierLimitStalls := by
  intro s stalled st hp hl hr hs hst
  have hst' : stalled = s.setFlags fun f => { f with barrierStall := true } := hst
  subst hst'
  refine ⟨fun h => ?_,
    fun h => ⟨_, ?_, halt_outcome (s := (s.setFlags fun f => { f with barrierStall := true }).stopPulled) hs h _⟩⟩
  · refine (if_pos ⟨hp, hl, hr⟩).trans ?_
    simp only [hs, h, enterDone_outcome]
  · refine (if_pos ⟨hp, hl, hr⟩).trans ?_
    rw [hs]
    cases st with
    | report => exact absurd rfl h
    | _ => rfl

/-- Settles O28: both commands change the items they name alone. -/
theorem idleSecondAndLampBlink : Obligations.IdleSecondAndLampBlink := by
  refine ⟨fun s hi => ⟨fun hs => ?_, fun hs => ?_⟩, fun s => ?_⟩
  · refine (if_pos hi).trans ?_
    simp [hs, State.setForeign, State.refreshLamps, State.lampPatterns, State.mapSwc, State.mapLif, Lamp.take]
  · refine (if_pos hi).trans ?_
    simp [hs, State.mapLif]
  · cases hok : s.swc.lampOk <;> cases hflt : s.swc.lampFlt <;>
      simp [exec, execLampBlinkToggle, State.mapSwc, Lamp.toggle, hok, hflt]

/-- Settles O29: each limit marks or clears the queue, and a release attempt follows. -/
theorem musterAndReportLimits : Obligations.MusterAndReportLimits := by
  intro s ht
  refine ⟨fun x hs he hx => ?_, fun x hs he hx => ⟨fun hl => ?_, fun lf hl => ?_⟩,
    fun hs he hq => ⟨fun x hl hx => ?_, fun lf hl => ?_⟩⟩
  · have e : exec .stageLimitExpiry s = .next s.markLimit.tryRelease := by
      refine (if_pos ⟨ht, he⟩).trans ?_
      simp only [hs]
    rw [e, State.tryRelease_muster (by simpa using hs), State.markLimit_muster hs, ← hx]
    subst hx
    simp
  · have e : exec .stageLimitExpiry s = .next (s.markLimit.mapCfe Cfe.keepOnlyLine).tryRelease := by
      refine (if_pos ⟨ht, he⟩).trans ?_
      simp only [hs]
    rw [e, State.tryRelease_report (by simpa using hs), State.markLimit_stops (by simp [hs]), ← hx]
    subst hx
    simp [State.mapCfe, State.keepOnlyLine_none, hl]
  · have e : exec .stageLimitExpiry s = .next (s.markLimit.mapCfe Cfe.keepOnlyLine).tryRelease := by
      refine (if_pos ⟨ht, he⟩).trans ?_
      simp only [hs]
    rw [e, State.tryRelease_report (by simpa using hs), State.markLimit_stops (by simp [hs]), ← hx]
    subst hx
    simp [State.mapCfe, State.keepOnlyLine_some hl]
  · have e : exec .musterDoubleLimit s = .next (s.mapCfe (·.removeEntry .present)).tryRelease := by
      refine (if_pos ⟨hs, ht, he, by simp [hq]⟩).trans ?_
      simp only [hl]
    rw [e, State.tryRelease_muster (by simpa using hs)]
    subst hx
    simp [State.mapCfe, Cfe.removeEntry, hq, he]
  · refine (if_pos ⟨hs, ht, he, by simp [hq]⟩).trans ?_
    simp only [hl]
    rfl

/-- Settles O32: the terminations by station state, and the four commands of a round. -/
theorem probeReadings : Obligations.ProbeReadings := by
  refine ⟨fun s c => ⟨s.rxTerminated_iff c, s.txTerminated_iff c⟩, fun s p levels hp => ⟨fun hr => ?_, ?_, fun hr hn => ?_, ?_⟩⟩
  · simp only [exec, execProbeReferenceReading, hp, hr, if_true, senseWhere_eq, State.watched_iff]
    rfl
  · simp only [exec, execProbeCurrentOn, hp]
    rfl
  · simp only [exec, execProbeSample, hp, hr, hn, and_self, if_true, senseWhere_eq]
    rfl
  · simp only [exec, execProbeCurrentOff, hp]
    rfl

end Sys2Proof.Proofs
end

section
/-! SUPPORT. The ends of the own frame (R161, R171 to R173) and the slot conflicts (R44, R57, R173). Settles O15 and O18. -/
namespace Sys2Proof.Machine

/-- R166: ten bit times for each byte. -/
theorem lineBits_length (bytes : List Byte) : (lineBits bytes).length = 10 * bytes.length := by
  induction bytes with
  | nil => rfl
  | cons b bs ih =>
    rw [lineBits, List.flatMap_cons, List.length_append, ← lineBits, ih, List.length_cons]
    simp [byteBits]
    omega

/-- R172: a loss before the whole SRC byte. -/
theorem execContentionLoss_early {s : State} {lf : LineFrame} {bit : Nat} (hl : s.cfe.onLine = some lf)
    (hb : bit < 10 * lf.bytes.length) (h : bit < 20) : exec (.contentionLoss bit) s = .next (s.loseFrame lf) := by
  have hn : ¬ bit ≥ afterSrcBit := by simp only [afterSrcBit]; omega
  simp only [exec, execContentionLoss, hl, lineBits_length, hb, if_true, hn, if_false]

/-- R173: a loss after the whole SRC byte. -/
theorem execContentionLoss_late {s : State} {lf : LineFrame} {bit : Nat} (hl : s.cfe.onLine = some lf)
    (hb : bit < 10 * lf.bytes.length) (h : 20 ≤ bit) :
    exec (.contentionLoss bit) s = .next (s.loseFrame lf).takeSlotConflict := by
  have hy : bit ≥ afterSrcBit := h
  simp only [exec, execContentionLoss, hl, lineBits_length, hb, if_true, hy]

namespace State

/-- R57: a PRESENT with the own slot number and the current tag. -/
theorem takePresent_own {s : State} {src : Byte} {f : PresentFields} {id : Identity} (hs : s.swc.station = .inStage .muster)
    (hi : s.identity = some id) (h1 : 1 ≤ src.toNat) (hsrc : src.toNat = id.slot) (ht : f.tag = s.swc.params.tag) :
    s.takePresent src f = s.takeSlotConflict := by
  have hn : ¬(src.toNat = 0 ∨ f.tag ≠ s.swc.params.tag) := by
    rintro (e | e)
    · omega
    · exact e ht
  simp only [takePresent, hs, hi]
  rw [if_neg hn, if_pos hsrc]

/-! ### What the removal of an entry leads to -/

/-- R161: a completed frame leaves the queue with its entry. -/
theorem execFrameComplete_head {s x : State} {lf : LineFrame} {q : List Entry} (hl : s.cfe.onLine = some lf)
    (hq : s.cfe.queue = lf.entry :: q) (hx : x = { s with cfe := { receiver := .waitIdle, queue := q, onLine := none } }) :
    exec .frameComplete s = .next (x.afterRemoval lf.entry) := by
  simp only [exec, execFrameComplete, hl]
  subst hx
  simp [mapCfe, Cfe.removeEntry, hq]

theorem loseFrame_kept {s : State} {lf : LineFrame} (hd : lf.dropOnLoss = false) :
    s.loseFrame lf = { s with cfe := { s.cfe with onLine := none } } := by
  simp [loseFrame, hd, mapCfe]

theorem loseFrame_dropped {s x : State} {lf : LineFrame} {q : List Entry} (hd : lf.dropOnLoss = true)
    (hq : s.cfe.queue = lf.entry :: q) (hx : x = { s with cfe := { s.cfe with queue := q, onLine := none } }) :
    s.loseFrame lf = x.afterRemoval lf.entry := by
  subst hx
  simp [loseFrame, hd, mapCfe, Cfe.removeEntry, hq]

/-- R32: the reports follow the PRESENT of a halted station. -/
theorem afterRemoval_halted_present {s : State} {st : Stage} (hs : s.swc.station = .halted st) (hq : s.cfe.queue = []) :
    s.afterRemoval .present = { s with cfe := { s.cfe with queue := s.reports } } := by
  rw [← queueReports_outcome hq]
  simp [afterRemoval, hs]

/-- R34: after the last report the station is in DONE. -/
theorem afterRemoval_halted_last {s : State} {st : Stage} {e : Entry} (hs : s.swc.station = .halted st) (he : e ≠ .present)
    (hq : s.cfe.queue = []) : s.afterRemoval e = s.sweepEnded := by
  rw [← enterDone_outcome]
  simp [afterRemoval, hs, he, hq]

theorem afterRemoval_halted_left {s : State} {st : Stage} {e : Entry} (hs : s.swc.station = .halted st) (he : e ≠ .present)
    (hq : s.cfe.queue ≠ []) : s.afterRemoval e = s := by
  simp [afterRemoval, hs, he, hq]

theorem afterRemoval_stage {s : State} {st : Stage} (hs : s.swc.station = .inStage st) (e : Entry) :
    s.afterRemoval e = s.tryRelease := by
  simp [afterRemoval, hs]

theorem afterRemoval_outside {s : State} {e : Entry} (hs : s.swc.station = .reset ∨ s.swc.station = .listen ∨
    s.swc.station = .barred ∨ s.swc.station = .done) : s.afterRemoval e = s := by
  rcases hs with hs | hs | hs | hs <;> simp [afterRemoval, hs]

/-- Between MUSTER and REPORT the release condition does not read the queue. -/
theorem releaseReady_frameEngine {s : State} {st : Stage} (hs : s.swc.station = .inStage st) (h1 : st ≠ .muster) (h2 : st ≠ .report)
    (f : Cfe → Cfe) : (s.mapCfe f).releaseReady = s.releaseReady := by
  cases st
  case muster => exact absurd rfl h1
  case report => exact absurd rfl h2
  all_goals
    unfold releaseReady
    simp only [mapCfe_swc, hs]
    rfl

end State
end Sys2Proof.Machine

namespace Sys2Proof.Proofs
open Sys2Proof.Machine

/-- Settles O15: a PRESENT and a late loss are the slot conflict of takeSlotConflict_outcome, the loss after loseFrame. -/
theorem slotConflictsTaken : Obligations.SlotConflictsTaken := by
  refine ⟨fun src f id s hr hs hi h1 h2 hsrc ht => ?_, fun s base lf bit hl hb hbit hbase => ?_⟩
  · refine ⟨_, receive_taken (by simp [hs]) hr (srcOk_of_le h2), ?_⟩
    rw [State.takePresent_own (s := s.afterFrame) hs hi h1 hsrc ht]
    exact takeSlotConflict_outcome _
  · rw [execContentionLoss_early hl (by omega) (by decide)] at hbase
    cases hbase
    exact ⟨_, execContentionLoss_late hl hb hbit, takeSlotConflict_outcome _⟩

/-- Settles O18: the entry leaves the queue with its frame, or the line alone is released; afterRemoval is then read by station
state. -/
theorem ownFramesEnd : Obligations.OwnFramesEnd := by
  refine ⟨fun s x lf q hl hq hx => ?_, fun s lf bit hl hb hbit => ⟨fun hd => ?_, fun q x hd hq hx => ?_⟩⟩
  · rw [State.execFrameComplete_head hl hq hx]
    have hsta : x.swc = s.swc := by rw [hx]
    have hlif : x.lif = s.lif := by rw [hx]
    have hxq : x.cfe.queue = q := by rw [hx]
    have hrep : s.reports = x.reports := by rw [hx]; rfl
    rw [← hsta, ← hlif, hrep]
    refine ⟨fun hs => ?_, fun st hs he hn => ?_, fun st hs he hn => ?_, fun st hs he hn => ?_, fun hs => ?_, fun hs => ?_,
      fun st hs h1 h2 hw => ?_⟩
    · rw [State.afterRemoval_outside hs]
    · rw [he, State.afterRemoval_halted_present hs (hxq.trans hn)]
    · rw [State.afterRemoval_halted_last hs he (hxq.trans hn)]
    · rw [State.afterRemoval_halted_left hs he (by rwa [hxq])]
    · rw [State.afterRemoval_stage hs, State.tryRelease_muster hs, hxq]
    · rw [State.afterRemoval_stage hs, State.tryRelease_report hs, hxq]
    · rw [State.afterRemoval_stage hs]
      have hr : x.releaseReady = s.releaseReady := by
        rw [hx]
        exact State.releaseReady_frameEngine (by rw [← hsta]; exact hs) h1 h2 fun _ => _
      by_cases hp : x.lif.phase = .holding
      · rw [State.tryRelease_of_not_ready (hr.trans (hw (by rwa [← hlif])))]
      · rw [State.tryRelease_of_not_holding hp]
  · rw [execContentionLoss_early hl hb hbit, State.loseFrame_kept hd]
  · rw [execContentionLoss_early hl hb hbit, State.loseFrame_dropped hd hq hx]
    have hsta : x.swc = s.swc := by rw [hx]
    have hlif : x.lif = s.lif := by rw [hx]
    have hxq : x.cfe.queue = q := by rw [hx]
    have hrep : s.reports = x.reports := by rw [hx]; rfl
    rw [← hsta, ← hlif, hrep]
    refine ⟨fun st hs he hn => ?_, fun hs => ?_, fun hs => ?_⟩
    · rw [he, State.afterRemoval_halted_present hs (hxq.trans hn)]
    · rw [State.afterRemoval_stage hs, State.tryRelease_muster hs, hxq]
    · rw [State.afterRemoval_stage hs, State.tryRelease_report hs, hxq]

end Sys2Proof.Proofs
end

section
/-! SUPPORT. The barriers and what each stage's entry leaves (R20, R23 to R28, R39, R40). Settles O23 to O25. -/
namespace Sys2Proof.Machine

namespace State

/-- R39: the barrier that is waited for is taken into the next stage. -/
theorem execBarrierTaken_next {s : State} {st st' : Stage} (hp : s.lif.phase = .waiting) (hb : s.lif.barrierRun = true)
    (hr : s.swc.released = true) (hs : s.swc.station = .inStage st) (hn : st.next = some st') :
    exec .barrierTaken s = .next ((s.mapLif Lif.startHoldOff).enterStage st') := by
  refine (if_pos ⟨hp, hb, hr⟩).trans ?_
  simp only [hs, hn]

/-- R20, R39, R40: the first step of a stage entry, with the limit of the stage as the statements write it. -/
theorem beginStage_outcome (s : State) (st : Stage) :
    (s.mapLif Lif.startHoldOff).beginStage st = s.entered st (s.swc.params.stageLimit st) := rfl

theorem stageLimit_identify (p : Params) : p.stageLimit .identify = .running (1000 * p.identifyMs) := by
  simp [Params.stageLimit, msToUs, Nat.mul_comm]
theorem stageLimit_soak (p : Params) : p.stageLimit .soak = .running (1000 * p.soakMs) := by
  simp [Params.stageLimit, msToUs, Nat.mul_comm]
theorem stageLimit_stress (p : Params) : p.stageLimit .stress = .running (1000 * p.stressMs) := by
  simp [Params.stageLimit, msToUs, Nat.mul_comm]
theorem stageLimit_report (p : Params) : p.stageLimit .report = .running (1000 * p.reportMs) := by
  simp [Params.stageLimit, msToUs, Nat.mul_comm]

/-- The in-use channels LOCKED, as the statements list them. -/
theorem lockedChans_eq (s : State) : s.lockedChans =
    (List.finRange 32).filter fun c : Chan => s.inUse c && (s.chan c).rx.state == RxState.locked := by
  unfold lockedChans inUseChans
  rw [List.filter_filter]
  congr 1
  funext c
  exact Bool.and_comm _ _

/-- R142: with no request waiting the LOCKED channels make up the SCAN queue. -/
theorem setQueue_append_nil {m : Emn} (hq : m.scanQueue = []) (hk : m.skip = 0) (q : List Chan) :
    m.setQueue (m.scanQueue ++ q) = { m with scanQueue := q } := by
  simp [Emn.setQueue, hq, hk]

end State

/-! ### The record at each entry -/

/-- R119, R124: the count of a stage at its entry. -/
theorem StageCount.enter_eq (x : RxState) (k : StageCount) : k.enter (x == .dead) =
    if x = .dead then { k with state := .settled, outcome := some .notRun } else { k with state := .waiting } := by
  cases x <;> rfl

/-- R142: the scan at STRESS entry. -/
theorem Scan.enter_eq (x : RxState) (k : Scan) : k.enter x =
    if x = .locked then { k with state := .pending }
    else if x = .dead then { k with state := .settled, outcome := some .notRun }
    else { k with state := .awaitLock } := by
  cases x <;> rfl

/-- R84: the stress swing of a RUNNING transmitter. -/
theorem Channel.setSwing_eq (swing : Nat) (tx : Tx) : Channel.setSwing swing tx =
    match tx with
    | .off => .off
    | .running x => .running { x with swing := swing } := by
  cases tx <;> rfl

end Sys2Proof.Machine

namespace Sys2Proof.Proofs
open Sys2Proof.Machine

/-- Settles O23: the two entries as enterStage writes them, record by record. -/
theorem staticAndIdentifyEntry : Obligations.StaticAndIdentifyEntry := by
  refine ⟨fun s hp hb hr hs => ?_, fun s hp hb hr hs => ⟨_, State.execBarrierTaken_next hp hb hr hs rfl, ?_, fun c hc => ?_⟩⟩
  · exact State.execBarrierTaken_next hp hb hr hs rfl
  · rw [← State.stageLimit_identify, ← State.beginStage_outcome]
    exact State.mapInUse_only (fun _ r => r.enterIdentify) (((s.mapLif Lif.startHoldOff).beginStage .identify).setSpu .idle)
  · rw [State.enterStage_identify_chan]
    exact if_pos hc

/-- Settles O24: the two entries record by record; the grant decision of STRESS comes after stressRequests. -/
theorem soakAndStressEntry : Obligations.SoakAndStressEntry := by
  refine ⟨fun s hp hb hr hs => ⟨_, _, State.execBarrierTaken_next hp hb hr hs rfl, rfl, ?_, fun c hc => ?_⟩,
    fun s hp hb hr hs hq hk => ⟨((s.mapLif Lif.startHoldOff).beginStage .stress).stressRequests, _,
      State.execBarrierTaken_next hp hb hr hs rfl, rfl, ?_, fun c hc => ?_⟩⟩
  · rw [← State.stageLimit_soak, ← State.beginStage_outcome]
    exact State.mapInUse_only (fun _ r => r.enterSoak) ((s.mapLif Lif.startHoldOff).beginStage .soak).startSettleDelay
  · rw [State.enterStage_soak_chan]
    refine (if_pos hc).trans ?_
    simp only [Channel.enterSoak, StageCount.enter_eq, State.mapLif_chan]
    rfl
  · rw [← State.stageLimit_stress, ← State.beginStage_outcome, ← s.lockedChans_eq, ← State.setQueue_append_nil hq hk]
    exact State.mapInUse_only (fun _ r => r.enterStress s.swc.params)
      (((s.mapLif Lif.startHoldOff).beginStage .stress).startSettleDelay.mapEmn fun m => m.setQueue (m.scanQueue ++ s.lockedChans))
  · rw [State.stressRequests_chan]
    refine (if_pos hc).trans ?_
    simp only [Channel.enterStress, StageCount.enter_eq, Scan.enter_eq, Channel.setSwing_eq]
    rfl

/-- Settles O25: REPORT entry record by record, DONE by enterDone_outcome, and no barrier outside WAITING. -/
theorem reportAndDoneEntry : Obligations.ReportAndDoneEntry := by
  refine ⟨fun s hp hb hr hs hq => ⟨_, State.execBarrierTaken_next hp hb hr hs rfl, ?_, fun c hc => ?_⟩,
    fun s hp hb hr hs => ?_, fun s h => ?_⟩
  · rw [← State.stageLimit_report, ← State.beginStage_outcome]
    have e : ((s.mapLif Lif.startHoldOff).enterStage .report) = _ := queueReports_outcome (s :=
      (((s.mapLif Lif.startHoldOff).beginStage .report).mapInUse fun _ r => r.enterReport).mapEmn fun _ => Emn.initial) hq
    rw [e]
    exact ⟨rfl, fun c hc => State.mapInUse_chan_unused (s := (s.mapLif Lif.startHoldOff).beginStage .report) hc fun _ r => r.enterReport⟩
  · rw [State.enterStage_report_chan]
    exact if_pos hc
  · refine (if_pos ⟨hp, hb, hr⟩).trans ?_
    simp only [hs, Stage.next, enterDone_outcome]
  · refine if_neg ?_
    rintro ⟨hp, hb, hr⟩
    rcases h with h | h | h <;> simp_all

end Sys2Proof.Proofs
end

section
/-! SUPPORT. The stage limit (R21, R99, R109, R126, R149), the end of a probe round (R69 to R74) and IDENTIFY completion
(R24, R60, R113). Settles O30, O34 and O45. -/
namespace Sys2Proof.Machine

/-! ### What the limit of a stage does to each item -/

/-- R126: an open count settles with what it has reached, and any other stays. -/
theorem StageCount.expire_cases (k : StageCount) :
    (k.state = .counting → k.expire = { k with state := .settled, outcome := some .undersampled }) ∧
      (k.state = .waiting → k.expire = { k with state := .settled, outcome := some .notRun }) ∧
      (k.state = .idle ∨ k.state = .settled → k.expire = k) := by
  unfold StageCount.expire
  cases k.state <;> simp [StageCount.settle]

/-- R149: an open scan settles, and any other stays. -/
theorem Scan.expire_cases (k : Scan) : (k.state = .idle ∨ k.state = .settled → k.expire = k) ∧
    (k.state = .awaitLock ∨ k.state = .pending ∨ k.state = .granted →
      k.expire = { k with state := .settled, outcome := some (if k.attempts = 0 then .notRun else .cut) }) := by
  unfold Scan.expire
  cases k.state <;> simp [Scan.settle]

theorem Ident.settleOpen_closed {i : Ident} (h : i.state ≠ .opened) (f : Source → MappingClass) (k : MappingClass) :
    i.settleOpen f k = i := if_neg h

theorem Ident.settleOpen_opened {i : Ident} (h : i.state = .opened) (f : Source → MappingClass) (k : MappingClass) :
    i.settleOpen f k = { i with state := .settled, cls := some (match i.heard with
      | some src => f src
      | none => k) } := by
  refine (if_pos h).trans ?_
  cases hh : i.heard with
  | none => simp only [Ident.settle, hh]
  | some src => simp only [Ident.settle, hh]

/-- R109: the class from the capture, for a station that knows its place. -/
theorem State.captureClass_eq {s : State} {id : Identity} (h : s.identity = some id) (c : Chan) :
    s.captureClass c = classFromCapture id c := by
  funext src
  simp only [State.captureClass, h]

theorem expireRecord_soak (st : Stage) (f : Source → MappingClass) (k : MappingClass) (r : Channel) :
    (expireRecord st f k r).soak = if st = .soak then r.soak.expire else r.soak := by
  cases st <;> rfl

theorem expireRecord_stress (st : Stage) (f : Source → MappingClass) (k : MappingClass) (r : Channel) :
    (expireRecord st f k r).stress = if st = .stress then r.stress.expire else r.stress := by
  cases st <;> rfl

/-- R21: the limit of the stages that settle items. -/
theorem execStageLimitExpiry_settles {s : State} {st : Stage} (ht : s.swc.stageTimer.isRunning = true)
    (he : s.swc.limitExpired = false) (hs : s.swc.station = .inStage st) (hst : st = .identify ∨ st = .soak ∨ st = .stress) :
    exec .stageLimitExpiry s = .next (State.finish s (s.markLimit.expireItems st)) := by
  refine (if_pos ⟨ht, he⟩).trans ?_
  rcases hst with rfl | rfl | rfl <;> simp only [hs]

/-! ### The findings of a round -/

/-- R69: samples of one class give that class. -/
theorem staticClassOf_uniform {l : List StaticClass} {k : StaticClass} (hl : l ≠ []) (h : ∀ x ∈ l, x = k) :
    staticClassOf l = k := by
  cases l with
  | nil => exact absurd rfl hl
  | cons x xs =>
    obtain rfl : x = k := h x (.head _)
    refine if_pos ?_
    rw [List.all_eq_true]
    exact fun y hy => beq_iff_eq.2 (h y (.tail _ hy))

/-- R69: samples of two classes give UNSTABLE. -/
theorem staticClassOf_mixed {l : List StaticClass} {x y : StaticClass} (hx : x ∈ l) (hy : y ∈ l) (hn : x ≠ y) :
    staticClassOf l = .unstable := by
  cases l with
  | nil => cases hx
  | cons z zs =>
    refine if_neg fun hall => hn ?_
    have hz : ∀ w ∈ z :: zs, w = z := by simpa using hall
    rw [hz x hx, hz y hy]

theorem ProbeRound.mem_sampleClasses (p : ProbeRound) (c : Chan) (k : StaticClass) :
    k ∈ p.sampleClasses c ↔ ∃ v ∈ p.samples, ∃ x, v[c.val] = some x ∧ sampleClass x = k := by
  simp [ProbeRound.sampleClasses, List.mem_filterMap]

/-- R69: the class of a pair that every sample sensed, as the statements give it. -/
theorem ProbeRound.class_eq {p : ProbeRound} {c : Chan} {k : StaticClass} (hn : p.samples ≠ [])
    (hsensed : ∀ v ∈ p.samples, ∃ x, v[c.val] = some x)
    (hone : ∀ x, (∀ v ∈ p.samples, ∃ y, v[c.val] = some y ∧ sampleClass y = x) → k = x)
    (hmixed : (∃ v ∈ p.samples, ∃ w ∈ p.samples, ∃ x y, v[c.val] = some x ∧ w[c.val] = some y ∧
      sampleClass x ≠ sampleClass y) → k = .unstable) : staticClassOf (p.sampleClasses c) = k := by
  obtain ⟨v, hv⟩ := List.exists_mem_of_ne_nil _ hn
  obtain ⟨x, hx⟩ := hsensed v hv
  have hmem : sampleClass x ∈ p.sampleClasses c := (p.mem_sampleClasses c _).2 ⟨v, hv, x, hx, rfl⟩
  by_cases huniform : ∀ z ∈ p.sampleClasses c, z = sampleClass x
  · rw [staticClassOf_uniform (List.ne_nil_of_mem hmem) huniform, hone]
    intro w hw
    obtain ⟨y, hy⟩ := hsensed w hw
    exact ⟨y, hy, huniform _ ((p.mem_sampleClasses c _).2 ⟨w, hw, y, hy, rfl⟩)⟩
  · push Not at huniform
    obtain ⟨z, hz, hne⟩ := huniform
    obtain ⟨w, hw, y, hy, rfl⟩ := (p.mem_sampleClasses c z).1 hz
    rw [staticClassOf_mixed hz hmem hne, hmixed ⟨w, hw, v, hv, y, x, hy, hx, hne⟩]

theorem StaticClass.bars_eq (k : StaticClass) : k.bars = (k == .shortLow || k == .shortHigh) := by
  cases k <;> rfl

/-- R72: a round's findings and the next round. -/
def State.roundFound (p : ProbeRound) (s : State) : State := (s.writeFindings p).setSpu (nextRound p.round)

theorem State.roundFound_chan {s : State} {c : Chan} (p : ProbeRound) (hc : s.inUse c = true) :
    (s.roundFound p).chan c =
      { s.chan c with static := roundFindings p (s.bridgePartner p.round) c (s.chan c).static } := by
  rw [State.roundFound, State.setSpu_chan, State.writeFindings, State.mapInUse_chan, if_pos hc]

/-- R72: the round that ends is the last one. -/
theorem nextRound_finished (r : Chan) : nextRound r = .finished ↔ r.val = 31 := by
  unfold nextRound State.probeRoundAt
  have := r.isLt
  split <;> simp <;> omega

theorem execRoundEnd_next {s : State} {p : ProbeRound} {ref : Readings} (hp : s.spu = .probing p) (hr : p.reference = some ref)
    (hn : p.samples.length = 4) : exec .roundEnd s =
      .next (if s.foundShortHigh p then (s.roundFound p).takeShortHigh else s.roundFound p).tryRelease := by
  simp only [exec, execRoundEnd, hp, hr, hn, Option.isSome_some, and_self, if_true]
  rfl

theorem State.foundShortHigh_iff (p : ProbeRound) (s : State) :
    s.foundShortHigh p = true ↔ s.inUse p.round = true ∧ staticClassOf (p.sampleClasses p.round) = .shortHigh := by
  simp [State.foundShortHigh]

/-- A halted station has no pull in place, and releases nothing. -/
theorem State.HaltedFrom.tryRelease {s t : State} {why : HaltReason} {st : Stage} (h : s.HaltedFrom why st t) :
    t.tryRelease = t := by
  exact State.tryRelease_of_not_ready (State.releaseReady_outside (by rw [h.swc]; rfl))

/-! ### IDENTIFY completion -/

/-- R60: the channels that heard slot q, as the statements list them. -/
theorem State.heardFrom_eq (s : State) (q : Nat) : s.heardFrom q = (List.finRange 32).filter fun c : Chan =>
    s.inUse c && ((s.chan c).ident.heard.map (·.slot)) == some q := by
  unfold State.heardFrom State.inUseChans
  rw [List.filter_filter]
  congr 1
  funext c
  rw [Bool.and_comm]
  cases (s.chan c).ident.heard <;> simp

theorem State.matchedFrom_eq (s : State) (q : Nat) :
    ((s.heardFrom q).filter fun c => (s.chan c).ident.cls == some .match_) = (List.finRange 32).filter fun c : Chan =>
      s.inUse c && ((s.chan c).ident.heard.map (·.slot)) == some q && (s.chan c).ident.cls == some MappingClass.match_ := by
  rw [State.heardFrom_eq, List.filter_filter]
  congr 1
  funext c
  exact Bool.and_comm _ _

theorem State.markDuplicates_heardFrom (s : State) (q : Nat) : s.markDuplicates.heardFrom q = s.heardFrom q := by
  rw [State.heardFrom_eq, State.heardFrom_eq]
  congr 1
  funext c
  rw [State.markDuplicates_chan, State.markDuplicates_inUse]

/-- R60: the Peer List that IDENTIFY completion leaves. -/
theorem State.completeIdentify_peers (s : State) : s.completeIdentify.peers = s.peers.map fun e => { e with
    heard := (s.heardFrom e.slot).length
    matched := ((s.heardFrom e.slot).filter fun c => (s.chan c).ident.cls == some .match_).length } := by
  unfold State.completeIdentify State.fillPeerCounts
  simp only [State.markDuplicates_heardFrom]
  refine List.map_congr_left fun e _ => ?_
  have hcls : ∀ c, (s.markDuplicates.chan c).ident.cls = (s.chan c).ident.cls := fun c => by rw [State.markDuplicates_chan]
  simp only [hcls]

/-- R113: the DUPLICATE mark of an in-use channel. -/
theorem State.duplicate_iff (s : State) {c : Chan} (hc : s.inUse c = true) :
    (s.markDuplicates.chan c).ident.duplicate = true ↔ (s.chan c).ident.duplicate = true ∨
      (s.chan c).ident.heard ≠ none ∧
        ∃ d, d ≠ c ∧ s.inUse d = true ∧ (s.chan d).ident.heard = (s.chan c).ident.heard := by
  unfold State.markDuplicates
  rw [State.mapInUse_chan, if_pos hc]
  simp only [Bool.or_eq_true, Bool.and_eq_true, List.any_eq_true, State.mem_inUseChans, bne_iff_ne, beq_iff_eq,
    Option.isSome_iff_ne_none]
  simp only [and_left_comm]

/-- Neither the mark nor the counts bear on the release condition. -/
theorem State.completeIdentify_releaseReady {s : State} (h : s.swc.station = .inStage .identify) :
    s.completeIdentify.releaseReady = true ↔ s.releaseReady = true := by
  rw [State.releaseReady_identify (by simpa using h), State.releaseReady_identify h]
  simp only [State.completeIdentify_inUse, State.completeIdentify_chan]
  refine forall_congr' fun c => ?_
  rw [State.markDuplicates_chan]

theorem State.identOpen_iff (s : State) : s.identOpen = true ↔ ∃ c, s.inUse c = true ∧ (s.chan c).ident.state = .opened := by
  simp [State.identOpen, State.anyInUse_iff]

theorem State.identOpen_false_iff (s : State) :
    s.identOpen = false ↔ ∀ c, s.inUse c = true → (s.chan c).ident.state ≠ .opened := by
  rw [← Bool.not_eq_true, State.identOpen_iff]
  simp

end Sys2Proof.Machine

namespace Sys2Proof.Proofs
open Sys2Proof.Machine

/-- Settles O30: the limit marks, expires every record item by item, and closes with finish. -/
theorem stageLimitSettlesItems : Obligations.StageLimitSettlesItems := by
  intro s st id ht he hs hst hid
  have hmark : s.markLimit = { s with swc := { s.swc with limitExpired := true, stageTimer := .stopped } } :=
    State.markLimit_stops (by rw [hs]; rcases hst with rfl | rfl | rfl <;> simp)
  refine ⟨_, execStageLimitExpiry_settles ht he hs hst, ?_, fun c r r' hc hr hr' => ?_⟩
  · refine ⟨?_, fun c hc => ?_⟩
    · rw [hmark]
      rfl
    · rw [State.expireItems_chan, State.markLimit_inUse, if_neg (Bool.not_eq_true _ ▸ hc)]
      rfl
  · rw [State.expireItems_chan, State.markLimit_inUse, if_pos hc, State.markLimit_chan, ← hr] at hr'
    subst hr'
    refine ⟨by simp, by simp, by simp, rfl, fun h => Ident.settleOpen_closed h _ _, fun h => ?_, fun h => ?_, fun h => ?_,
      fun k k' hk => ?_, r.scan.expire_cases.1, r.scan.expire_cases.2⟩
    · rw [← State.captureClass_eq hid]
      exact Ident.settleOpen_opened h _ _
    · rw [expireRecord_soak, if_neg h]
    · rw [expireRecord_stress, if_neg h]
    · rw [expireRecord_soak, expireRecord_stress] at hk
      rcases hk with ⟨h, rfl, rfl⟩ | ⟨h, rfl, rfl⟩ <;> rw [if_pos h] <;> exact StageCount.expire_cases _

/-- Settles O34: the findings, then the SHORT_HIGH cause, then a release attempt on the finished probe. -/
theorem roundEndFindings : Obligations.RoundEndFindings := by
  intro s p ref k hp hr hn hs hsensed hone hmixed
  have hne : p.samples ≠ [] := by rintro h; simp [h] at hn
  have hk : s.inUse p.round = true → staticClassOf (p.sampleClasses p.round) = k :=
    fun hu => ProbeRound.class_eq hne (hsensed hu) hone hmixed
  have hfound : s.foundShortHigh p = true ↔ s.inUse p.round = true ∧ k = .shortHigh := by
    rw [State.foundShortHigh_iff]
    exact and_congr_right fun hu => by rw [hk hu]
  refine ⟨s.roundFound p, ?_, fun c hc h => ?_, fun c hc h hrose => ?_, fun c hc h hrose => ?_, fun v hv => ?_⟩
  · exact ⟨rfl, fun c hc => State.mapInUse_chan_unused (s := s) hc fun c r =>
      { r with static := roundFindings p (s.bridgePartner p.round) c r.static }⟩
  · subst h
    rw [State.roundFound_chan p hc, roundFindings, if_pos rfl, hk hc]
    simp only [StaticClass.bars_eq, Bool.or_assoc]
  · rw [State.roundFound_chan p hc, roundFindings, if_neg h, if_pos hrose]
    rfl
  · rw [State.roundFound_chan p hc, roundFindings, if_neg h, if_neg (by simp [hrose])]
  · have hstep := execRoundEnd_next hp hr hn
    rw [← and_assoc, ← hfound]
    rw [← hfound] at hv
    have hrelease : ∀ w : State, w.swc = s.swc → w.spu = nextRound p.round → w.lif.phase = s.lif.phase → w.tryRelease =
        if p.round.val = 31 ∧ s.lif.phase = .holding ∧ s.swc.released = false then w.stageReleased else w := by
      intro w hw hspu hph
      have hready : w.releaseReady = true ↔ p.round.val = 31 := by
        rw [State.releaseReady_static (by rw [hw, hs]), hspu, nextRound_finished]
      rw [tryRelease_outcome]
      exact if_congr (by rw [hready, hw, hph]; tauto) rfl rfl
    by_cases hf : s.foundShortHigh p = true
    · rw [if_pos hf] at hstep
      have hpulled := hv.1 hf
      have hhalted := halt_outcome (s := v) (by rw [hpulled]; exact hs) (by decide) .shortHigh
      refine ⟨fun h => ⟨_, hstep, ?_⟩, fun h => ?_⟩
      · have e : (s.roundFound p).takeShortHigh = v.halt .shortHigh := by
          rw [hpulled]; exact if_pos h.2
        rw [e, hhalted.tryRelease]
        exact hhalted
      · have e : (s.roundFound p).takeShortHigh = v := by
          rw [hpulled]; exact if_neg fun hall => h ⟨hf, hall⟩
        rw [hstep, e, hrelease v (by rw [hpulled]; rfl) (by rw [hpulled]; rfl) (by rw [hpulled]; rfl)]
    · rw [if_neg hf] at hstep
      refine ⟨fun h => absurd h.1 hf, fun _ => ?_⟩
      rw [hstep, hv.2 hf, hrelease (s.roundFound p) rfl rfl rfl]

/-- Settles O45: finish with and without the completion. -/
theorem identifyCompletion : Obligations.IdentifyCompletion := by
  intro before s
  refine ⟨fun hs hb ho => ⟨s.completeIdentify, rfl, fun c hc => ?_, fun c hc => ?_, ?_, ?_⟩, fun h => ?_⟩
  · exact State.mapInUse_chan_unused hc _
  · exact ⟨_, s.markDuplicates_chan c, s.duplicate_iff hc⟩
  · simp only [State.completeIdentify_peers, State.matchedFrom_eq]
    simp only [State.heardFrom_eq]
  · refine (if_pos ⟨hs, (State.identOpen_iff _).2 hb, (State.identOpen_false_iff _).2 ho⟩).trans ?_
    rw [tryRelease_outcome]
    exact if_congr (and_congr_right' (and_congr_right' (State.completeIdentify_releaseReady hs))) rfl rfl
  · rw [← State.identOpen_iff, ← State.identOpen_false_iff] at h
    exact (if_neg h).trans (tryRelease_outcome s)

end Sys2Proof.Proofs
end

section
/-! SUPPORT. What every change of a lane keeps of one channel's record: its static fields, its transmitter, the invariants of its
counts and its identification, and whatever has settled. -/
namespace Sys2Proof.Machine

/-! ### Stage counts -/

/-- From count k to count k' no invariant is lost, an IDLE count is not begun, and a SETTLED one is not opened again. -/
structure StageCount.Kept (t : Nat) (k k' : StageCount) : Prop where
  wf : k.Wf t → k'.Wf t
  idle : k.state = .idle → k'.state = .idle
  settled : k.state = .settled → k'.state = .settled

namespace StageCount

variable {t : Nat} {k k' k'' : StageCount}

theorem Kept.refl (t : Nat) (k : StageCount) : Kept t k k := ⟨id, id, id⟩

theorem Kept.trans (h : Kept t k k') (h' : Kept t k' k'') : Kept t k k'' :=
  ⟨h'.wf ∘ h.wf, h'.idle ∘ h.idle, h'.settled ∘ h.settled⟩

/-- R122, R133: the invariant of an IDLE or WAITING count. -/
theorem wf_unstarted (hs : k.state = .idle ∨ k.state = .waiting) :
    k.Wf t ↔ k.outcome = none ∧ k.n = 0 ∧ k.e = 0 := by
  unfold Wf
  rcases hs with hs | hs <;> cases ho : k.outcome <;> simp [hs]

theorem wf_counting (hs : k.state = .counting) :
    k.Wf t ↔ k.outcome = none ∧ k.e < failErrors ∧ k.n < countThreshold t k.e := by
  unfold Wf
  cases ho : k.outcome <;> simp [hs]

/-- A count that never ran settles NOT_RUN or UNTESTED. -/
theorem wf_settle_unrun (hn : k.n = 0) (he : k.e = 0) {o : CountOutcome} (ho : o = .notRun ∨ o = .untested) :
    (k.settle o).Wf t := by
  rcases ho with rfl | rfl <;> exact ⟨hn, he⟩

/-- A running count is cut off LOST, UNDERSAMPLED or HALTED. -/
theorem wf_settle_cut (he : k.e < failErrors) (hn : k.n < countThreshold t k.e) {o : CountOutcome}
    (ho : o = .lost ∨ o = .undersampled ∨ o = .halted) : (k.settle o).Wf t := by
  rcases ho with rfl | rfl | rfl <;> exact ⟨he, hn⟩

/-- The thresholds are positive. -/
theorem countThreshold_pos (t : Nat) {e : Nat} (he : e < failErrors) : 0 < countThreshold t e := by
  refine Nat.mul_pos ?_ (Nat.pos_of_ne_zero (by positivity))
  have : ∀ e < 16, 0 < confidenceWeight e := by decide
  exact this e he

/-- R123: a further error asks for no fewer bits. -/
theorem countThreshold_succ (t : Nat) {e : Nat} (he : e < failErrors) : countThreshold t e ≤ countThreshold t (e + 1) := by
  refine Nat.mul_le_mul_right _ ?_
  have : ∀ e < 16, confidenceWeight e ≤ confidenceWeight (e + 1) := by decide
  exact this e he

/-- R120. -/
theorem start_kept (t : Nat) (k : StageCount) : Kept t k k.start := by
  unfold start
  split
  case isFalse => exact .refl t k
  case isTrue hs =>
    refine ⟨fun h => ?_, fun e => ?_, fun e => ?_⟩
    · obtain ⟨ho, -, -⟩ := (wf_unstarted (.inr hs)).1 h
      exact (wf_counting rfl).2 ⟨ho, Nat.zero_lt_succ 15, countThreshold_pos t (Nat.zero_lt_succ 15)⟩
    all_goals rw [hs] at e; cases e

/-- A count settles: its invariant is what remains to be shown. -/
theorem settle_kept {o : CountOutcome} (h : k.Wf t → (k.settle o).Wf t) (hs : k.state ≠ .idle) : Kept t k (k.settle o) :=
  ⟨h, fun e => absurd e hs, fun _ => rfl⟩

/-- R124 to R126: an open count settles as never run or as cut off. -/
theorem settle_waiting_kept (hs : k.state = .waiting) : Kept t k (k.settle .notRun) :=
  settle_kept (fun h => by
    obtain ⟨-, hn, he⟩ := (wf_unstarted (.inr hs)).1 h
    exact wf_settle_unrun hn he (.inl rfl)) (by simp [hs])

theorem settle_counting_kept (hs : k.state = .counting) {o : CountOutcome} (ho : o = .lost ∨ o = .undersampled ∨ o = .halted) :
    Kept t k (k.settle o) :=
  settle_kept (fun h => by
    obtain ⟨-, he, hn⟩ := (wf_counting hs).1 h
    exact wf_settle_cut he hn ho) (by simp [hs])

/-- R125. -/
theorem lose_kept (t : Nat) (k : StageCount) : Kept t k k.lose := by
  unfold lose
  split
  · exact settle_counting_kept ‹_› (.inl rfl)
  · exact .refl t k

/-- R124. -/
theorem die_kept (t : Nat) (k : StageCount) : Kept t k k.die := by
  unfold die
  split
  · exact settle_waiting_kept ‹_›
  · exact .refl t k

/-- R126. -/
theorem expire_kept (t : Nat) (k : StageCount) : Kept t k k.expire := by
  unfold expire
  split
  · exact settle_counting_kept ‹_› (.inr (.inl rfl))
  · exact settle_waiting_kept ‹_›
  all_goals exact .refl t k

/-- R123: what one more bit, with an error or without, asks of the threshold. -/
theorem countThreshold_step (t : Nat) {e : Nat} (he : e < failErrors) (err : Bool) :
    ∃ e', (if err then e + 1 else e) = e' ∧ e' ≤ e + 1 ∧ countThreshold t e ≤ countThreshold t e' := by
  cases err
  · exact ⟨e, rfl, Nat.le_succ e, le_rfl⟩
  · exact ⟨e + 1, rfl, le_rfl, countThreshold_succ t he⟩

/-- R122: a compared bit of a running count. The weights grow with the errors, so the threshold is met exactly. -/
theorem takeBit_kept (t : Nat) (err : Bool) (hs : k.state = .counting) : Kept t k (k.takeBit t err) := by
  refine ⟨fun h => ?_, fun e => absurd e (by simp [hs]), fun e => absurd e (by simp [hs])⟩
  obtain ⟨ho, he, hn⟩ := (wf_counting hs).1 h
  obtain ⟨e', hstep, hle, hmono⟩ := countThreshold_step t he err
  unfold takeBit
  simp only [hstep]
  split
  case isTrue hfail =>
    have hlast : k.e = 15 := by unfold failErrors at *; omega
    rw [hlast] at hn
    exact ⟨by unfold failErrors at *; dsimp only; omega, hn⟩
  case isFalse hfail =>
    split
    case isTrue hmet => exact ⟨Nat.lt_of_not_ge hfail, Nat.le_antisymm (hn.trans_le hmono) hmet⟩
    case isFalse hmet =>
      exact (wf_counting (k := { k with n := k.n + 1, e := e' }) hs).2 ⟨ho, Nat.lt_of_not_ge hfail, Nat.lt_of_not_ge hmet⟩

end StageCount

/-! ### Identification -/

/-- From items i to items i' no invariant is lost, an IDLE channel is not opened, and a SETTLED one is not opened again. -/
structure Ident.Kept (i i' : Ident) : Prop where
  wf : i.Wf → i'.Wf
  idle : i.state = .idle → i'.state = .idle
  settled : i.state = .settled → i'.state = .settled

namespace Ident

variable {i i' i'' : Ident}

theorem Kept.refl (i : Ident) : Kept i i := ⟨id, id, id⟩

theorem Kept.trans (h : Kept i i') (h' : Kept i' i'') : Kept i i'' :=
  ⟨h'.wf ∘ h.wf, h'.idle ∘ h.idle, h'.settled ∘ h.settled⟩

/-- R102: settling keeps the invariant of items within their bounds. -/
theorem Wf.settle (h : i.Wf) (k : MappingClass) : (i.settle k).Wf where
  settled_iff := iff_of_true rfl rfl
  idle_initial := fun e => by cases e
  no_match := h.no_match
  match_le := h.match_le
  match_open := fun e => by cases e
  run_le := h.run_le
  run_open := fun e => by cases e

theorem settle_kept (hs : i.state ≠ .idle) (h : i.Wf → i'.Wf) (k : MappingClass) : Kept i (i'.settle k) :=
  ⟨fun hi => (h hi).settle k, fun e => absurd e hs, fun _ => rfl⟩

/-- The items of an OPEN channel that stays OPEN. -/
theorem Wf.reopen (h : i.Wf) (hs : i.state = .opened) (hs' : i'.state = .opened) (hc : i'.cls = i.cls)
    (hn : i'.heard = none → i'.matchCount = 0 ∧ i'.undecodedRun < undecodedTarget) (hm : i'.matchCount < matchTarget)
    (hr : i'.undecodedRun ≤ undecodedTarget) : i'.Wf where
  settled_iff := by rw [hc, h.settled_iff, hs, hs']
  idle_initial := fun e => by rw [hs'] at e; cases e
  no_match := fun e => (hn e).1
  match_le := hm.le
  match_open := fun _ => hm
  run_le := hr
  run_open := fun _ e => (hn e).2

theorem kept_of_opened (hs : i.state = .opened) (h : i.Wf → i'.Wf) : Kept i i' :=
  ⟨h, fun e => absurd e (by simp [hs]), fun e => absurd e (by simp [hs])⟩

/-- R107: with the undecoded run at 0 the items of an OPEN channel stand. -/
theorem Wf.clear (h : i.Wf) (hs : i.state = .opened) : Ident.Wf { i with undecodedRun := 0 } :=
  h.reopen hs hs rfl (fun e => ⟨h.no_match e, Nat.zero_lt_succ 63⟩) (h.match_open hs) (Nat.zero_le _)

/-- R105: a channel that has heard its source settles with one token more. -/
theorem Wf.settle_match (h : i.Wf) (hs : i.state = .opened) (hh : i.heard ≠ none) (k : MappingClass) :
    (Ident.settle k { i with matchCount := i.matchCount + 1, undecodedRun := 0 }).Wf where
  settled_iff := iff_of_true rfl rfl
  idle_initial := fun e => by cases e
  no_match := fun e => absurd e hh
  match_le := h.match_open hs
  match_open := fun e => by cases e
  run_le := Nat.zero_le _
  run_open := fun e => by cases e

/-- R107: a channel settles with its undecoded run at the bound. -/
theorem Wf.settle_run (h : i.Wf) (n : Nat) (k : MappingClass) :
    (Ident.settle k { i with undecodedRun := min n undecodedTarget }).Wf where
  settled_iff := iff_of_true rfl rfl
  idle_initial := fun e => by cases e
  no_match := h.no_match
  match_le := h.match_le
  match_open := fun e => by cases e
  run_le := Nat.min_le_right _ _
  run_open := fun e => by cases e

/-- R115: the mark of a SETTLED channel. -/
theorem markChanged_kept (hs : i.state = .settled) : Kept i { i with sourceChanged := true } :=
  ⟨fun h => ⟨h.settled_iff, fun e => absurd e (by simp [hs]), h.no_match, h.match_le, h.match_open, h.run_le, h.run_open⟩,
    fun e => e, fun e => e⟩

/-- R104 to R106, R115. -/
theorem takeToken_kept (cls : MappingClass) (src : Source) (i : Ident) : Kept i (i.takeToken cls src) := by
  fun_cases takeToken cls src i
  case case1 hs => exact .refl i
  case case2 hs hh =>
    exact kept_of_opened hs fun h => h.reopen hs hs rfl (fun e => by cases e) (Nat.lt_of_sub_eq_succ rfl) (Nat.zero_le _)
  case case3 hs _ hfull hh =>
    exact ⟨fun h => h.settle_match hs (by simp [hh]) cls, fun e => absurd e (by simp [hs]), fun _ => rfl⟩
  case case4 hs _ hfull hh =>
    exact kept_of_opened hs fun h => h.reopen hs hs rfl (fun e => absurd (hh.symm.trans e) (by simp))
      (Nat.lt_of_not_ge hfull) (Nat.zero_le _)
  case case5 hs src' hh hne => exact settle_kept (by simp [hs]) (fun h => h.clear hs) _
  case case6 hs hh => exact .refl i
  case case7 hs hh => exact .refl i
  case case8 hs src' hh hne => exact markChanged_kept hs

/-- R107. -/
theorem takeNoToken_kept (i : Ident) : Kept i i.takeNoToken := by
  fun_cases takeNoToken i
  case case1 hs _ hfull => exact ⟨fun h => h.settle_run _ _, fun e => absurd e (by simp [hs]), fun _ => rfl⟩
  case case2 hs _ hfull =>
    refine kept_of_opened hs fun h => h.reopen hs hs rfl (fun e => ⟨h.no_match e, ?_⟩) (h.match_open hs) (Nat.min_le_right _ _)
    have hnone : i.heard = none := e
    simpa [hnone] using hfull
  case case3 hs => exact .refl i
  case case4 hs => exact .refl i

/-- R107. -/
theorem clearRun_kept (i : Ident) : Kept i i.clearRun := by
  unfold clearRun
  split
  case isTrue hs =>
    exact kept_of_opened hs fun h => h.clear hs
  case isFalse => exact .refl i

/-- R108, R109. -/
theorem settleOpen_kept (f : Source → MappingClass) (k : MappingClass) (i : Ident) : Kept i (i.settleOpen f k) := by
  by_cases hs : i.state = .opened
  · unfold settleOpen
    rw [if_pos hs]
    cases i.heard <;> exact settle_kept (by simp [hs]) id _
  · rw [settleOpen_closed hs]
    exact .refl i

/-- R113: a mark on a channel that has heard a source. -/
theorem markDuplicate_kept (i : Ident) (b : Bool) : Kept i { i with duplicate := i.duplicate || (i.heard.isSome && b) } := by
  refine ⟨fun h => ⟨h.settled_iff, fun e => ?_, h.no_match, h.match_le, h.match_open, h.run_le, h.run_open⟩,
    fun e => e, fun e => e⟩
  have hi : i = Ident.initial := h.idle_initial e
  subst hi
  simp [Ident.initial]

end Ident

/-! ### The whole record -/

/-- R84: the transmitter runs or is OFF as before, at its swing. -/
def Tx.SameDrive : Tx → Tx → Prop
  | .off, .off => True
  | .running x, .running x' => x'.swing = x.swing
  | .off, .running _ | .running _, .off => False

theorem Tx.SameDrive.refl (x : Tx) : x.SameDrive x := by
  cases x <;> simp [Tx.SameDrive]

theorem Tx.SameDrive.trans : ∀ {x x' x'' : Tx}, x.SameDrive x' → x'.SameDrive x'' → x.SameDrive x''
  | .off, .off, .off, _, _ => trivial
  | .running _, .running _, .running _, h, h' => Eq.trans h' h

/-- From record r to record r', with parameters p, a lane has moved: nothing of another unit's has changed, and no invariant of the
counts and the identification is lost. -/
structure Channel.Kept (p : Params) (r r' : Channel) : Prop where
  static : r'.static = r.static
  tx : r.tx.SameDrive r'.tx
  ident : r.ident.Kept r'.ident
  soak : r.soak.Kept p.tSoak r'.soak
  stress : r.stress.Kept p.tStress r'.stress

namespace Channel

variable {p : Params} {r r' r'' : Channel}

theorem Kept.refl (p : Params) (r : Channel) : Kept p r r :=
  ⟨rfl, .refl _, .refl _, .refl _ _, .refl _ _⟩

theorem Kept.trans (h : Kept p r r') (h' : Kept p r' r'') : Kept p r r'' :=
  ⟨h'.static.trans h.static, h.tx.trans h'.tx, h.ident.trans h'.ident, h.soak.trans h'.soak, h.stress.trans h'.stress⟩

/-- Only receiver, scan and snapshot differ. -/
theorem Kept.of_eq (hs : r'.static = r.static) (ht : r'.tx = r.tx) (hi : r'.ident = r.ident) (hk : r'.soak = r.soak)
    (hx : r'.stress = r.stress) : Kept p r r' :=
  ⟨hs, ht ▸ .refl _, hi ▸ .refl _, hk ▸ .refl _ _, hx ▸ .refl _ _⟩

/-- Only receiver, scan, snapshot and identification differ. -/
theorem Kept.of_ident (hs : r'.static = r.static) (ht : r'.tx = r.tx) (hi : r.ident.Kept r'.ident) (hk : r'.soak = r.soak)
    (hx : r'.stress = r.stress) : Kept p r r' :=
  ⟨hs, ht ▸ .refl _, hi, hk ▸ .refl _ _, hx ▸ .refl _ _⟩

theorem noteFault_kept (p : Params) (st : Stage) (k : FaultKind) (n : Nat) (r : Channel) : Kept p r (r.noteFault st k n) :=
  .of_eq (by simp) (by simp) (by simp) (by simp) (by simp)

/-- A change of the count of a stage that keeps counts keeps the record. -/
theorem mapCount_kept {f : StageCount → StageCount} (h : ∀ t k, StageCount.Kept t k (f k)) (p : Params) (st : Stage)
    (r : Channel) : Kept p r (r.mapCount st f) := by
  cases st with
  | soak => exact ⟨rfl, .refl _, .refl _, h _ _, .refl _ _⟩
  | stress => exact ⟨rfl, .refl _, .refl _, .refl _ _, h _ _⟩
  | _ => exact .refl p r

/-- A record whose identification, receiver and scan are replaced. -/
theorem Kept.withIdent (h : Kept p r r') {i : Ident} (hi : r.ident.Kept i) (x : Rx) (k : Scan) :
    Kept p r { r' with ident := i, rx := x, scan := k } := ⟨h.static, h.tx, hi, h.soak, h.stress⟩

end Channel

/-- R122, R130: a compared bit. -/
theorem takeComparedBit_kept (p : Params) (st : Stage) (err : Bool) (r : Channel) :
    r.Kept p (takeComparedBit st (p.target st) err r) := by
  have hcount : ∀ k, r.count? st = some k → k.state = .counting →
      r.Kept p (r.mapCount st (StageCount.takeBit (p.target st) err)) := by
    intro k hk hs
    cases st <;> cases hk
    · exact ⟨rfl, .refl _, .refl _, StageCount.takeBit_kept _ err hs, .refl _ _⟩
    · exact ⟨rfl, .refl _, .refl _, .refl _ _, StageCount.takeBit_kept _ err hs⟩
  unfold takeComparedBit
  split
  · split
    · dsimp only
      split
      · exact (hcount _ ‹_› ‹_›).trans (Channel.noteFault_kept p _ _ _ _)
      · exact hcount _ ‹_› ‹_›
    · exact .refl p r
  · exact .refl p r

/-- R94, R107, R125, R130: a lock loss. -/
theorem loseRecord_kept (p : Params) (st : Stage) (r : Channel) : r.Kept p (State.loseRecord st r) :=
  ((Channel.noteFault_kept p st .lockLost (r.countingN st) r).trans
    (Channel.mapCount_kept StageCount.lose_kept p st _)).withIdent r.ident.clearRun_kept _ _

/-- R93, R120: a lock. -/
theorem lockRecord_kept (p : Params) (st : Stage) (b : Bool) (r : Channel) : r.Kept p (State.lockRecord st b r) := by
  unfold State.lockRecord
  cases b with
  | true => exact (Channel.mapCount_kept StageCount.start_kept p st r).withIdent r.ident.clearRun_kept _ _
  | false => exact (Channel.Kept.refl p r).withIdent r.ident.clearRun_kept _ _

/-- R119, R120: the end of the settle delay. -/
theorem delayRecord_kept (p : Params) (st : Stage) (r : Channel) : r.Kept p (delayRecord st r) := by
  unfold delayRecord
  split
  · exact Channel.mapCount_kept StageCount.start_kept p st r
  · exact .refl p r

/-- R99, R109, R126, R149: the limit of a stage. -/
theorem expireRecord_kept (p : Params) (st : Stage) (f : Source → MappingClass) (k : MappingClass) (r : Channel) :
    r.Kept p (expireRecord st f k r) :=
  (Channel.mapCount_kept StageCount.expire_kept p st r).withIdent (Ident.settleOpen_kept f _ r.ident) _ _

/-- R88, R104 to R106, R115, R130: a valid token. -/
theorem takeTokenRecord_kept (p : Params) (st : Stage) (cls : MappingClass) (src : Source) (r : Channel) :
    r.Kept p (takeTokenRecord st cls src r) := by
  refine .of_ident (by simp) (by simp) ?_ (by simp) (by simp)
  exact Ident.takeToken_kept cls src r.ident

/-! ### Scans -/

/-- R147 to R149: a settled scan takes no loss, death or limit. -/
theorem Scan.lose_settled {k : Scan} (h : k.state = .settled) : k.lose = k := by simp [Scan.lose, h]
theorem Scan.die_settled {k : Scan} (h : k.state = .settled) : k.die = k := by simp [Scan.die, h]
theorem Scan.expire_settled {k : Scan} (h : k.state = .settled) : k.expire = k := by simp [Scan.expire, h]

end Sys2Proof.Machine
end

section
/-! SUPPORT. State.LaneMove: what the lane commands change of the whole station, and that every one of their operations is such a
move. -/
namespace Sys2Proof.Machine

/-! ### The Peer List -/

/-- R52, R55, R59: an entry of the changed list is an entry of the list or the fresh one, changed or not. -/
theorem mem_upsertPeer {fresh : PeerEntry} {g : PeerEntry → PeerEntry} {l : List PeerEntry} {x : PeerEntry}
    (h : x ∈ upsertPeer fresh g l) : x ∈ l ∨ ∃ y, (y = fresh ∨ y ∈ l) ∧ x = g y := by
  induction l with
  | nil => exact .inr ⟨fresh, .inl rfl, List.mem_singleton.1 h⟩
  | cons e es ih =>
    unfold upsertPeer at h
    split at h
    · rcases List.mem_cons.1 h with rfl | h
      · exact .inr ⟨fresh, .inl rfl, rfl⟩
      · exact .inl h
    · split at h <;> rcases List.mem_cons.1 h with rfl | h
      · exact .inr ⟨e, .inr (.head _), rfl⟩
      · exact .inl (.tail _ h)
      · exact .inl (.head _)
      · rcases ih h with h | ⟨y, rfl | hy, e'⟩
        · exact .inl (.tail _ h)
        · exact .inr ⟨y, .inl rfl, e'⟩
        · exact .inr ⟨y, .inr (.tail _ hy), e'⟩

namespace State

theorem PeersWf.congr {s t : State} (h : s.PeersWf) (hi : t.identity = s.identity) (hp : t.peers = s.peers) : t.PeersWf := by
  obtain ⟨ha, hr, hn, he, hz⟩ := h
  constructor <;> simp only [hp, hi, ownSlot, expectedCount] <;> assumption

/-- R52, R55, R59: an entry for another slot from 1 to 16 keeps the Peer List. -/
theorem PeersWf.upsert {s : State} (h : s.PeersWf) {q : Nat} (hq : 1 ≤ q ∧ q ≤ 16) (hown : q ≠ s.ownSlot)
    (hid : s.identity ≠ none) (a differs : Bool) :
    (s.setPeers (upsertPeer (s.newPeer q a) (·.noteMismatch differs) s.peers)).PeersWf := by
  have hmem : ∀ x ∈ upsertPeer (s.newPeer q a) (·.noteMismatch differs) s.peers,
      (1 ≤ x.slot ∧ x.slot ≤ 16) ∧ x.slot ≠ s.ownSlot ∧ x.expected = s.expectedCount x.slot := by
    intro x hx
    have hold : ∀ y ∈ s.peers, (1 ≤ y.slot ∧ y.slot ≤ 16) ∧ y.slot ≠ s.ownSlot ∧ y.expected = s.expectedCount y.slot :=
      fun y hy => ⟨h.range y hy, h.not_own y hy, h.expected y hy⟩
    rcases mem_upsertPeer hx with hx | ⟨y, rfl | hy, rfl⟩
    · exact hold x hx
    · exact ⟨hq, hown, rfl⟩
    · exact hold y hy
  exact {
    ascending := (upsertPeer_outcome (s.newPeer q a) (·.noteMismatch differs) (fun _ => rfl) _ h.ascending).1
    range := fun x hx => (hmem x hx).1
    not_own := fun x hx => (hmem x hx).2.1
    expected := fun x hx => (hmem x hx).2.2
    in_reset := fun e => absurd e hid }

theorem PeersWf.mapPeers {s : State} (h : s.PeersWf) {g : PeerEntry → PeerEntry} (hs : ∀ e, (g e).slot = e.slot)
    (he : ∀ e, (g e).expected = e.expected) : (s.setPeers (s.peers.map g)).PeersWf where
  ascending := by
    refine List.pairwise_map.2 (h.ascending.imp fun hlt => ?_)
    rwa [hs, hs]
  range := fun x hx => by
    obtain ⟨y, hy, rfl⟩ := List.mem_map.1 hx
    rw [hs]; exact h.range y hy
  not_own := fun x hx => by
    obtain ⟨y, hy, rfl⟩ := List.mem_map.1 hx
    rw [hs]; exact h.not_own y hy
  expected := fun x hx => by
    obtain ⟨y, hy, rfl⟩ := List.mem_map.1 hx
    rw [hs, he]; exact h.expected y hy
  in_reset := fun e => List.map_eq_nil_iff.2 (h.in_reset e)

end State

/-! ### Moves -/

/-- The control items that no lane command touches. -/
structure Swc.SameSweep (w w' : Swc) : Prop where
  station : w'.station = w.station
  params : w'.params = w.params
  released : w'.released = w.released
  haltReason : w'.haltReason = w.haltReason
  foreignSweep : w'.foreignSweep = w.foreignSweep
  lampOk : w'.lampOk = w.lampOk
  lampFlt : w'.lampFlt = w.lampFlt

theorem Swc.SameSweep.refl (w : Swc) : w.SameSweep w := ⟨rfl, rfl, rfl, rfl, rfl, rfl, rfl⟩

theorem Swc.SameSweep.trans {w w' w'' : Swc} (h : w.SameSweep w') (h' : w'.SameSweep w'') : w.SameSweep w'' :=
  ⟨h'.station.trans h.station, h'.params.trans h.params, h'.released.trans h.released, h'.haltReason.trans h.haltReason,
    h'.foreignSweep.trans h.foreignSweep, h'.lampOk.trans h.lampOk, h'.lampFlt.trans h.lampFlt⟩

namespace State

/-- Channel c's scan has settled and asks for no grant. -/
def ScanDone (s : State) (c : Chan) : Prop := (s.chan c).scan.state = .settled ∧ c ∉ s.emn.scanQueue

/-- From s to t lanes have moved: the sweep, the lines, the probe and the queues stand, every record is kept, and a scan that is done
stays done. -/
structure LaneMove (s t : State) : Prop where
  identity : t.identity = s.identity
  swc : s.swc.SameSweep t.swc
  lif : t.lif = s.lif
  spu : t.spu = s.spu
  cfe : t.cfe = s.cfe
  pending : t.pending = s.pending
  records : ∀ c, (s.chan c).Kept s.swc.params (t.chan c)
  scans : ∀ c, s.ScanDone c → t.ScanDone c
  peers : s.PeersWf → t.PeersWf

namespace LaneMove

variable {s t u : State}

theorem refl (s : State) : s.LaneMove s :=
  ⟨rfl, .refl _, rfl, rfl, rfl, rfl, fun _ => .refl _ _, fun _ => id, id⟩

theorem trans (h : s.LaneMove t) (h' : t.LaneMove u) : s.LaneMove u where
  identity := h'.identity.trans h.identity
  swc := h.swc.trans h'.swc
  lif := h'.lif.trans h.lif
  spu := h'.spu.trans h.spu
  cfe := h'.cfe.trans h.cfe
  pending := h'.pending.trans h.pending
  records := fun c => (h.records c).trans (h.swc.params ▸ h'.records c)
  scans := fun c => h'.scans c ∘ h.scans c
  peers := h'.peers ∘ h.peers

theorem inUse (h : s.LaneMove t) (c : Chan) : t.inUse c = s.inUse c := inUse_congr h.identity c

/-! ### The operations -/

/-- A change of one record. -/
theorem mapChan {c : Chan} {f : Channel → Channel} (hr : (s.chan c).Kept s.swc.params (f (s.chan c)))
    (hs : (s.chan c).scan.state = .settled → (f (s.chan c)).scan.state = .settled) : s.LaneMove (s.mapChan c f) where
  identity := rfl
  swc := .refl _
  lif := rfl
  spu := rfl
  cfe := rfl
  pending := rfl
  records := fun d => by
    rw [mapChan_chan]
    split
    · rename_i e; subst e; exact hr
    · exact .refl _ _
  scans := fun d ⟨hd, hq⟩ => ⟨by
    rw [mapChan_chan]
    split
    · rename_i e; subst e; exact hs hd
    · exact hd, hq⟩
  peers := fun h => h.congr rfl rfl

/-- A change of one record's receiver alone. -/
theorem mapChan_rx {c : Chan} {f : Channel → Channel} (hf : ∃ x, f (s.chan c) = { s.chan c with rx := x }) :
    s.LaneMove (s.mapChan c f) := by
  obtain ⟨x, hx⟩ := hf
  exact mapChan (hx ▸ .of_eq rfl rfl rfl rfl rfl) (by rw [hx]; exact id)

/-- A change of every in-use record. -/
theorem mapInUse {f : Chan → Channel → Channel} (hr : ∀ c, (s.chan c).Kept s.swc.params (f c (s.chan c)))
    (hs : ∀ c, (s.chan c).scan.state = .settled → (f c (s.chan c)).scan.state = .settled) : s.LaneMove (s.mapInUse f) where
  identity := rfl
  swc := .refl _
  lif := rfl
  spu := rfl
  cfe := rfl
  pending := rfl
  records := fun c => by
    rw [mapInUse_chan]
    split
    · exact hr c
    · exact .refl _ _
  scans := fun c ⟨hc, hq⟩ => ⟨by
    rw [mapInUse_chan]
    split
    · exact hs c hc
    · exact hc, hq⟩
  peers := fun h => h.congr rfl rfl

/-- A change of the monitor that queues no scan. -/
theorem mapEmn {f : Emn → Emn} (hq : ∀ c, c ∈ (f s.emn).scanQueue → c ∈ s.emn.scanQueue) : s.LaneMove (s.mapEmn f) where
  identity := rfl
  swc := .refl _
  lif := rfl
  spu := rfl
  cfe := rfl
  pending := rfl
  records := fun _ => .refl _ _
  scans := fun c ⟨hc, hn⟩ => ⟨hc, fun e => hn (hq c e)⟩
  peers := fun h => h.congr rfl rfl

/-- R21, R119: the settle delay, the flags and the stage limit. -/
theorem mapSwc {f : Swc → Swc} (hf : s.swc.SameSweep (f s.swc)) : s.LaneMove (s.mapSwc f) where
  identity := rfl
  swc := hf
  lif := rfl
  spu := rfl
  cfe := rfl
  pending := rfl
  records := fun _ => .refl _ _
  scans := fun _ => id
  peers := fun h => h.congr rfl rfl

/-- A change of the Peer List. -/
theorem setPeers {ps : List PeerEntry} (hp : s.PeersWf → (s.setPeers ps).PeersWf) : s.LaneMove (s.setPeers ps) where
  identity := rfl
  swc := .refl _
  lif := rfl
  spu := rfl
  cfe := rfl
  pending := rfl
  records := fun _ => .refl _ _
  scans := fun _ => id
  peers := hp

/-- R151, R152: a grant decision grants a scan that was queued, and no other. -/
theorem arbitrate (s : State) : s.LaneMove s.arbitrate := by
  rcases s.arbitrate_cases with e | ⟨c, cs, -, -, -, e⟩ | ⟨c, cs, -, hq, -, e⟩
  · rw [e]; exact refl s
  · rw [e]
    exact (mapEmn fun _ => id).trans (mapChan_rx ⟨_, rfl⟩)
  · rw [e]
    exact {
      identity := rfl
      swc := .refl _
      lif := rfl
      spu := rfl
      cfe := rfl
      pending := rfl
      records := fun d => by
        rw [mapChan_chan, mapEmn_chan]
        split
        · exact .of_eq rfl rfl rfl rfl rfl
        · exact .refl _ _
      scans := fun d ⟨hd, hn⟩ => by
        rw [hq, List.mem_cons, not_or] at hn
        exact ⟨by rw [mapChan_chan, if_neg hn.1]; exact hd, hn.2⟩
      peers := fun h => h.congr rfl rfl }

/-- R96, R108, R124, R148: the items of a DEAD channel. -/
theorem settleDead (c : Chan) (s : State) : s.LaneMove (s.settleDead c) := by
  unfold State.settleDead
  split
  · refine mapChan ?_ fun e => by rw [Scan.die_settled e]; exact e
    exact (Channel.mapCount_kept StageCount.die_kept _ _ _).withIdent (Ident.settleOpen_kept _ _ _) _ _
  all_goals exact refl s

/-- R95. -/
theorem countFailure (c : Chan) (s : State) : s.LaneMove (s.countFailure c) := by
  rcases s.countFailure_cases c with e | ⟨e, -⟩ <;> rw [e]
  · exact mapChan_rx ⟨_, rfl⟩
  · exact (mapChan_rx (f := fun r => { r with rx := r.rx.countFailure s.swc.params }) ⟨_, rfl⟩).trans (settleDead c _)

/-- R93, R142: a lock queues the scan that waited for it, and no settled one. -/
theorem lock (c : Chan) (s : State) : s.LaneMove (s.lock c) := by
  unfold State.lock
  split
  case h_1 st _ =>
    dsimp only
    have hrec : s.LaneMove (s.mapChan c (lockRecord st (!s.swc.settleDelay.isRunning))) :=
      mapChan (lockRecord_kept _ _ _ _) fun e => by simp [lockRecord, e]
    split
    case isFalse => exact hrec
    case isTrue ha =>
      refine { hrec with
        scans := fun d ⟨hd, hn⟩ => ⟨(hrec.scans d ⟨hd, hn⟩).1, fun e => ?_⟩
        peers := fun h => h.congr rfl rfl }
      rcases List.mem_append.1 e with e | e
      · exact hn e
      · rw [List.mem_singleton.1 e, ha] at hd
        cases hd
  all_goals exact refl s

/-- R107. -/
theorem takeNoToken (c : Chan) (s : State) : s.LaneMove (s.takeNoToken c) :=
  mapChan (.of_ident rfl rfl (Ident.takeNoToken_kept _) rfl rfl) id

/-- R59: a valid token names a slot from 1 to 16, and here another than the own. -/
theorem offerToken {id : Identity} {tok : Token} (hid : s.identity = some id) (hv : s.tokenValid tok = true)
    (hn : tok.slot.toNat ≠ id.slot) : s.LaneMove (s.offerToken id tok) := by
  have hslot : 1 ≤ tok.slot.toNat ∧ tok.slot.toNat ≤ 16 := by
    unfold State.tokenValid at hv
    split at hv
    case h_4 => cases hv
    all_goals
      simp only [Bool.and_eq_true, decide_eq_true_eq] at hv
      obtain ⟨⟨⟨hlo, hhi⟩, -⟩, -⟩ := hv
      exact ⟨hlo, hhi⟩
  have hpeers : s.LaneMove (s.setPeers
      (upsertPeer (s.newPeer tok.slot.toNat false) (·.noteMismatch (tokenDiffers id tok)) s.peers)) :=
    setPeers fun h => h.upsert hslot (by simpa [ownSlot, hid] using hn) (by simp [hid]) _ _
  unfold State.offerToken
  dsimp only
  split
  · exact hpeers
  · exact hpeers.trans (mapSwc ⟨rfl, rfl, rfl, rfl, rfl, rfl, rfl⟩)

/-- R59, R88. -/
theorem takeValidToken {c : Chan} {id : Identity} {tok : Token} (st : Stage) (hid : s.identity = some id)
    (hv : s.tokenValid tok = true) : s.LaneMove (s.takeValidToken c id tok st) := by
  unfold State.takeValidToken
  dsimp only
  split
  · exact mapChan (takeTokenRecord_kept _ _ _ _ _) (by simp)
  · exact (offerToken hid hv ‹_›).trans (mapChan (takeTokenRecord_kept _ _ _ _ _) (by simp))

/-- R86 to R88: a token block. -/
theorem takeBlock (c : Chan) (w : BitVec 32) (s : State) : s.LaneMove (s.takeBlock c w) := by
  unfold State.takeBlock
  split
  case h_2 => exact refl s
  case h_1 st id _ hid =>
    split
    · refine LaneMove.trans ?_ (takeNoToken c _)
      exact mapChan (Channel.noteFault_kept _ _ _ _ _) (by simp)
    all_goals
      split
      · exact takeValidToken st hid ‹_›
      · exact takeNoToken c s

/-- R121, R122: a compared bit. -/
theorem takeLaneBit (c : Chan) (ref : BitVec 31) (b : Bool) (s : State) : s.LaneMove (s.takeLaneBit c ref b) := by
  have href : s.LaneMove (s.mapChan c (advanceReference ref)) := mapChan_rx ⟨_, rfl⟩
  unfold State.takeLaneBit
  dsimp only
  split
  · split
    · exact href.trans (mapChan (takeComparedBit_kept _ _ _ _) (by simp))
    · exact href
  all_goals exact href

/-- R113: IDENTIFY completion. -/
theorem completeIdentify (s : State) : s.LaneMove s.completeIdentify := by
  have hmark : s.LaneMove s.markDuplicates :=
    mapInUse (fun c => .of_ident rfl rfl (Ident.markDuplicate_kept _ _) rfl rfl) fun _ => id
  exact hmark.trans (setPeers fun h => h.mapPeers (fun _ => rfl) fun _ => rfl)

/-- R99, R109, R126, R149: the limit of a stage. -/
theorem expireItems (st : Stage) (s : State) : s.LaneMove (s.expireItems st) := by
  have hrec : s.LaneMove (s.mapInUse fun c r => expireRecord st (s.captureClass c) (s.silentClass c) r) :=
    mapInUse (fun c => expireRecord_kept _ _ _ _ _) fun c e => by
      have : (s.chan c).scan.expire.state = .settled := by rw [Scan.expire_settled e]; exact e
      exact this
  exact hrec.trans (mapEmn fun c e => by cases e)

end LaneMove
end State
end Sys2Proof.Machine
end

section
/-! SUPPORT. The invariants of the transmitters, the records, the Outbound Queue and the lamps under a change of what they do not read, and
under a release. -/
namespace Sys2Proof.Machine

/-- R158: a lamp that takes a pattern shows it. -/
theorem Lamp.take_pattern (l : Lamp) (p : LampPattern) : (l.take p).pattern = p := by
  cases p with
  | blink rate =>
    cases l with
    | blink rate' lit => by_cases e : rate' = rate <;> simp [Lamp.take, Lamp.pattern, e]
    | _ => rfl
  | _ => rfl

namespace State

variable {s t : State}

/-! ### Changes that the invariants do not read -/

/-- R20: the release condition reads the stage, its items, the queue, the probe and the MUSTER limit. -/
theorem releaseReady_of_items (hi : t.identity = s.identity) (hs : t.swc.station = s.swc.station)
    (hl : t.swc.limitExpired = s.swc.limitExpired) (hq : t.cfe.queue = s.cfe.queue) (hp : t.spu = s.spu)
    (hr : ∀ c, ((t.chan c).ident.state = .settled → (s.chan c).ident.state = .settled) ∧
      ((t.chan c).soak.state = .settled → (s.chan c).soak.state = .settled) ∧
      ((t.chan c).stress.state = .settled → (s.chan c).stress.state = .settled) ∧
      ((t.chan c).scan.state = .settled → (s.chan c).scan.state = .settled))
    (h : t.releaseReady = true) : s.releaseReady = true := by
  have hu : ∀ c, t.inUse c = s.inUse c := inUse_congr hi
  cases hst : s.swc.station with
  | inStage st =>
    rw [hst] at hs
    cases st with
    | muster => rwa [releaseReady_muster hst, ← hl, ← hq, ← releaseReady_muster hs]
    | static => rwa [releaseReady_static hst, ← hp, ← releaseReady_static hs]
    | identify =>
      rw [releaseReady_identify hs] at h
      exact (releaseReady_identify hst).2 fun c hc => (hr c).1 (h c (hu c ▸ hc))
    | soak =>
      rw [releaseReady_soak hs] at h
      exact (releaseReady_soak hst).2 fun c hc => (hr c).2.1 (h c (hu c ▸ hc))
    | stress =>
      rw [releaseReady_stress hs] at h
      exact (releaseReady_stress hst).2 fun c hc =>
        ⟨(hr c).2.2.1 (h c (hu c ▸ hc)).1, (hr c).2.2.2 (h c (hu c ▸ hc)).2⟩
    | report => rwa [releaseReady_report hst, ← hq, ← releaseReady_report hs]
  | _ => rw [releaseReady_outside (by rw [hs, hst]; rfl)] at h; cases h

theorem releaseReady_congr (hi : t.identity = s.identity) (hs : t.swc.station = s.swc.station)
    (hl : t.swc.limitExpired = s.swc.limitExpired) (hq : t.cfe.queue = s.cfe.queue) (hp : t.spu = s.spu)
    (hc : t.channels = s.channels) : t.releaseReady = s.releaseReady := by
  have hr : ∀ c, t.chan c = s.chan c := fun c => by simp [chan, hc]
  refine Bool.eq_iff_iff.2 ⟨releaseReady_of_items hi hs hl hq hp fun c => ?_,
    releaseReady_of_items hi.symm hs.symm hl.symm hq.symm hp.symm fun c => ?_⟩ <;> simp [hr]

theorem HoldingWf.congr (h : s.HoldingWf) (hp : t.lif.phase = .holding → s.lif.phase = .holding)
    (hr : t.releaseReady = true → s.releaseReady = true) : t.HoldingWf := by
  intro e
  have := h (hp e)
  by_contra hn
  rw [hr (by simpa using hn)] at this
  cases this

/-- Transmitters that run on under the same demands. -/
theorem TransmittersWf.of_asked (h : s.TransmittersWf) (ha : ∀ c, t.txAsked c = s.txAsked c) (hw : t.swingAsked = s.swingAsked)
    (hx : ∀ c, (s.chan c).tx.SameDrive (t.chan c).tx) : t.TransmittersWf := by
  intro c
  have hcs := h c
  have hxc := hx c
  cases htx : (s.chan c).tx <;> cases htx' : (t.chan c).tx <;> rw [htx, htx'] at hxc <;> rw [htx] at hcs
  · exact (ha c).trans hcs
  · exact absurd hxc id
  · exact absurd hxc id
  · rename_i x x'
    have hsame : x'.swing = x.swing := hxc
    exact ⟨(ha c).trans hcs.1, hsame.trans (hcs.2.trans hw.symm)⟩

theorem TransmittersWf.congr (h : s.TransmittersWf) (hi : t.identity = s.identity) (hs : t.swc.station = s.swc.station)
    (hp : t.swc.params.swing = s.swc.params.swing) (hc : ∀ c, (t.chan c).static.barred = (s.chan c).static.barred)
    (hx : ∀ c, (s.chan c).tx.SameDrive (t.chan c).tx) : t.TransmittersWf :=
  h.of_asked (fun c => by simp [txAsked, hs, inUse_congr hi, hc]) (by simp [swingAsked, hs, hp]) hx

/-- Where no lane runs every transmitter is OFF. -/
theorem TransmittersWf.of_off (hs : s.swc.station.lanesRun = false) (hx : ∀ c, (s.chan c).tx = .off) : s.TransmittersWf := by
  intro c
  rw [hx c]
  simp [txAsked, hs]

/-- Where no lane runs every transmitter is OFF. -/
theorem TransmittersWf.off (h : s.TransmittersWf) (hs : s.swc.station.lanesRun = false) (c : Chan) : (s.chan c).tx = .off := by
  have hc := h c
  cases htx : (s.chan c).tx with
  | off => rfl
  | running x =>
    rw [htx] at hc
    simp [txAsked, hs] at hc

theorem CountsWf.of_kept (h : s.CountsWf) (hs : t.swc.station = s.swc.station) (hp : t.swc.params = s.swc.params)
    (hc : ∀ c, (s.chan c).Kept s.swc.params (t.chan c)) : t.CountsWf where
  soak := fun c => by rw [hp]; exact (hc c).soak.wf (h.soak c)
  stress := fun c => by rw [hp]; exact (hc c).stress.wf (h.stress c)
  soak_idle := fun st c e hst => (hc c).soak.idle (h.soak_idle st c (hs ▸ e) hst)
  stress_idle := fun st c e hst => (hc c).stress.idle (h.stress_idle st c (hs ▸ e) hst)

/-- The counts after a change of the station state that enters no stage before SOAK or STRESS. -/
theorem CountsWf.restation (h : s.CountsWf) (ht : t.swc.params.tSoak = s.swc.params.tSoak ∧ t.swc.params.tStress = s.swc.params.tStress)
    (hc : ∀ c, (t.chan c).soak = (s.chan c).soak ∧ (t.chan c).stress = (s.chan c).stress)
    (hs : ∀ st, t.swc.station = .inStage st → ∃ st', s.swc.station = .inStage st' ∧ st'.code ≤ st.code) : t.CountsWf where
  soak := fun c => by rw [ht.1, (hc c).1]; exact h.soak c
  stress := fun c => by rw [ht.2, (hc c).2]; exact h.stress c
  soak_idle := fun st c e hst => by
    obtain ⟨st', e', hle⟩ := hs st e
    rw [(hc c).1]
    exact h.soak_idle st' c e' (hle.trans_lt hst)
  stress_idle := fun st c e hst => by
    obtain ⟨st', e', hle⟩ := hs st e
    rw [(hc c).2]
    exact h.stress_idle st' c e' (hle.trans_lt hst)

theorem IdentsWf.of_kept (h : s.IdentsWf) (hs : t.swc.station = s.swc.station)
    (hc : ∀ c, (s.chan c).ident.Kept (t.chan c).ident) : t.IdentsWf where
  items := fun c => (hc c).wf (h.items c)
  idle := fun st c e hst => (hc c).idle (h.idle st c (hs ▸ e) hst)

theorem IdentsWf.restation (h : s.IdentsWf) (hc : ∀ c, (t.chan c).ident = (s.chan c).ident)
    (hs : ∀ st, t.swc.station = .inStage st → ∃ st', s.swc.station = .inStage st' ∧ st'.code ≤ st.code) : t.IdentsWf where
  items := fun c => by rw [hc]; exact h.items c
  idle := fun st c e hst => by
    obtain ⟨st', e', hle⟩ := hs st e
    rw [hc]
    exact h.idle st' c e' (hle.trans_lt hst)

/-- What has settled stays settled while the same items are asked for. -/
theorem SettledWf.of_settled (h : s.SettledWf) (hi : t.identity = s.identity)
    (hd : ∀ st, st.code < 6 → t.itemsDone st = true → s.itemsDone st = true)
    (hr : ∀ c, s.inUse c = true → ((s.chan c).ident.state = .settled → (t.chan c).ident.state = .settled) ∧
      ((s.chan c).soak.state = .settled → (t.chan c).soak.state = .settled) ∧
      ((s.chan c).stress.state = .settled → (t.chan c).stress.state = .settled) ∧
      ((s.chan c).scan.state = .settled → (t.chan c).scan.state = .settled)) : t.SettledWf := by
  have hu : ∀ c, t.inUse c = true → s.inUse c = true := fun c hc => inUse_congr hi c ▸ hc
  constructor
  case ident => exact fun e c hc => (hr c (hu c hc)).1 (h.ident (hd _ (by decide) e) c (hu c hc))
  case soak => exact fun e c hc => (hr c (hu c hc)).2.1 (h.soak (hd _ (by decide) e) c (hu c hc))
  case stress =>
    intro e c hc
    obtain ⟨hx, hk⟩ := h.stress (hd _ (by decide) e) c (hu c hc)
    exact ⟨(hr c (hu c hc)).2.2.1 hx, (hr c (hu c hc)).2.2.2 hk⟩

theorem itemsDone_iff {cur st : Stage} (hs : s.swc.station = .inStage cur) :
    s.itemsDone st = true ↔ st.code < cur.code ∨ s.swc.released = true ∧ cur = st := by
  simp [itemsDone, hs]

theorem itemsDone_congr (hs : t.swc.station = s.swc.station) (hr : t.swc.released = s.swc.released) (st : Stage) :
    t.itemsDone st = s.itemsDone st := by
  simp only [itemsDone, hs, hr]

theorem SettledWf.congr (h : s.SettledWf) (hi : t.identity = s.identity) (hs : t.swc.station = s.swc.station)
    (hr : t.swc.released = s.swc.released) (hc : t.channels = s.channels) : t.SettledWf :=
  h.of_settled hi (fun st _ e => itemsDone_congr hs hr st ▸ e) fun c _ => by simp [chan, hc]

/-- Nothing is asked of a station that has not begun a sweep. -/
theorem SettledWf.of_none (hd : ∀ st, s.itemsDone st = false) : s.SettledWf := by
  constructor <;> intro e <;> rw [hd] at e <;> cases e

theorem QueueWf.congr (h : s.QueueWf) (hi : t.identity = s.identity) (hs : t.swc.station = s.swc.station)
    (hr : t.swc.released = s.swc.released) (hc : t.cfe = s.cfe) : t.QueueWf := by
  obtain ⟨h1, h2, h3, h4, h5, h6, h7, h8, h9⟩ := h
  constructor <;> simp only [inUse_congr hi, hs, hr, hc] <;> assumption

/-- R157: the slot verdict reads the identity, the records, the parameters, the flags and the halt reason. -/
theorem slotVerdict_congr (hi : t.identity = s.identity) (hc : t.channels = s.channels) (hp : t.swc.params = s.swc.params)
    (hf : t.swc.flags = s.swc.flags) (hr : t.swc.haltReason = s.swc.haltReason) : t.slotVerdict = s.slotVerdict := by
  have hv : t.channelVerdict = s.channelVerdict := by funext c; simp [channelVerdict, chan, hc, hp]
  have hu : t.inUseChans = s.inUseChans := by
    have : t.inUse = s.inUse := funext (inUse_congr hi)
    simp [inUseChans, this]
  unfold slotVerdict barred
  rw [hi, hv, hu, hf, hr]

/-- R158: outside DONE the lamps read the station state and the foreign-sweep indication alone. -/
theorem lampPatterns_congr (hs : t.swc.station = s.swc.station) (hf : t.swc.foreignSweep = s.swc.foreignSweep)
    (hv : s.swc.station = .done → t.slotVerdict = s.slotVerdict) : t.lampPatterns = s.lampPatterns := by
  unfold lampPatterns
  rw [hs, hf]
  cases hst : s.swc.station with
  | done => rw [hv hst]
  | _ => rfl

theorem LampsWf.of_patterns (h : s.LampsWf) (ho : t.swc.lampOk.pattern = s.swc.lampOk.pattern)
    (hf : t.swc.lampFlt.pattern = s.swc.lampFlt.pattern) (hp : t.lampPatterns = s.lampPatterns) : t.LampsWf := by
  unfold LampsWf
  rw [ho, hf, hp]
  exact h

theorem refreshLamps_lampsWf (s : State) : s.refreshLamps.LampsWf :=
  ⟨Lamp.take_pattern _ _, Lamp.take_pattern _ _⟩

/-! ### A release -/

/-- R20: a release condition that holds is that of a stage. -/
theorem stage_of_ready (h : s.releaseReady = true) : ∃ st, s.swc.station = .inStage st := by
  cases hs : s.swc.station with
  | inStage st => exact ⟨st, rfl⟩
  | _ => rw [releaseReady_outside (by rw [hs]; rfl)] at h; cases h

/-- R20, R38: what a release leaves as it was. -/
theorem TransmittersWf.release (h : s.TransmittersWf) : s.release.TransmittersWf :=
  h.congr rfl rfl rfl (fun _ => rfl) fun _ => .refl _

theorem CountsWf.release (h : s.CountsWf) : s.release.CountsWf := h.of_kept rfl rfl fun _ => .refl _ _

theorem IdentsWf.release (h : s.IdentsWf) : s.release.IdentsWf := h.of_kept rfl fun _ => .refl _

theorem PeersWf.release (h : s.PeersWf) : s.release.PeersWf := h.congr rfl rfl

theorem LampsWf.release (h : s.LampsWf) : s.release.LampsWf :=
  h.of_patterns rfl rfl (lampPatterns_congr rfl rfl fun _ => slotVerdict_congr rfl rfl rfl rfl rfl)

/-- R24 to R26: the items of a released stage are settled, by the release condition. -/
theorem SettledWf.release (h : s.SettledWf) (hr : s.releaseReady = true) : s.release.SettledWf := by
  obtain ⟨cur, hs⟩ := stage_of_ready hr
  have hdone : ∀ st, s.release.itemsDone st = true → s.itemsDone st = true ∨ s.swc.station = .inStage st := by
    intro st e
    rcases (itemsDone_iff (s := s.release) hs).1 e with e | ⟨-, rfl⟩
    · exact .inl ((itemsDone_iff hs).2 (.inl e))
    · exact .inr hs
  constructor
  case ident =>
    intro e c hc
    rcases hdone _ e with e | e
    · exact h.ident e c hc
    · exact (releaseReady_identify e).1 hr c hc
  case soak =>
    intro e c hc
    rcases hdone _ e with e | e
    · exact h.soak e c hc
    · exact (releaseReady_soak e).1 hr c hc
  case stress =>
    intro e c hc
    rcases hdone _ e with e | e
    · exact h.stress e c hc
    · exact (releaseReady_stress e).1 hr c hc

/-- R22, R27: MUSTER releases without its PRESENT, REPORT with an empty queue, and the stages between have none. -/
theorem QueueWf.empty_of_ready (h : s.QueueWf) (hr : s.releaseReady = true) : s.cfe.queue = [] := by
  obtain ⟨st, hs⟩ := stage_of_ready hr
  by_cases hm : st = .muster
  · subst hm
    have hnot := ((releaseReady_muster hs).1 hr).2
    rcases h.muster_only hs with e | e
    · exact e
    · simp [e] at hnot
  · by_cases hrep : st = .report
    · subst hrep
      exact (releaseReady_report hs).1 hr
    · exact h.empty_when (.inr (.inr ⟨st, hs, .inr ⟨hm, hrep⟩⟩))

theorem QueueWf.release (h : s.QueueWf) (hr : s.releaseReady = true) : s.release.QueueWf := by
  have he := h.empty_of_ready hr
  exact {
    once := h.once
    in_use := h.in_use
    present_alone := h.present_alone
    muster_only := h.muster_only
    present_when := fun e => by rw [release_cfe, he] at e; cases e
    empty_when := fun _ => he
    reports_left := h.reports_left
    on_line := h.on_line
    follows_own := h.follows_own }

/-- R20, R37: after a release attempt a station that still pulls has work left. -/
theorem tryRelease_holding (h : s.LinesWf) : s.tryRelease.HoldingWf := by
  intro hp
  rcases s.tryRelease_cases with e | ⟨e, -, -, -⟩
  · rw [e] at hp ⊢
    by_contra hn
    have hr : s.releaseReady = true := by simpa using hn
    obtain ⟨st, hs⟩ := stage_of_ready hr
    have hrel : s.swc.released = false := by
      by_contra hn
      have := (h.waiting_iff (by rw [hs]; rfl)).1 (by simpa using hn)
      rw [hp] at this
      cases this
    rw [tryRelease_of_ready hp hrel hr] at e
    have := congrArg (·.swc.released) e
    simp [hrel] at this
  · rw [e] at hp
    cases hp

/-- What holds after a release and without one holds after a release attempt. -/
theorem tryRelease_of {P : State → Prop} (h : P s) (hr : s.releaseReady = true → P s.release) : P s.tryRelease := by
  rcases s.tryRelease_cases with e | ⟨e, -, -, hready⟩ <;> rw [e]
  · exact h
  · exact hr hready

end State
end Sys2Proof.Machine
end

section
/-! SUPPORT. State.LaneRun: every lane command is one or two lane events, each of them a move that the invariants stand, closed by a
release attempt where it may settle items. -/
namespace Sys2Proof.Machine
namespace State

/-- The station is in a stage, or has a receiver at work or a grant standing: what a lane command needs to change a record. -/
def Awake (s : State) : Prop :=
  s.swc.station.inSomeStage = true ∨ (∃ c, (s.chan c).rx.state ≠ .off ∧ (s.chan c).rx.state ≠ .dead) ∨ s.emn.grant ≠ none

/-- One event of the lanes: a move that settles nothing, or one that is closed by a release attempt. -/
inductive LaneAct (s : State) : State → Prop
  | move {t : State} (h : s.LaneMove t) (hr : t.releaseReady = true → s.releaseReady = true)
      (ha : s.Awake ∨ t.channels = s.channels ∧ t.swc.flags = s.swc.flags) : s.LaneAct t
  | close {t : State} (h : s.LaneMove t) (ha : s.Awake) : s.LaneAct t.tryRelease

/-- A lane command: one event, or the end of a point before the event itself. -/
inductive LaneRun (s : State) : State → Prop
  | one {t : State} (h : s.LaneAct t) : s.LaneRun t
  | two {u t : State} (h : s.LaneAct u) (hu : s.Arbitrated → u.Arbitrated) (h' : u.LaneAct t) : s.LaneRun t

variable {s t : State}

/-! ### What an event keeps -/

theorem LinesWf.laneMove (h : s.LinesWf) (hm : s.LaneMove t) : t.LinesWf :=
  h.congr hm.identity hm.swc.station hm.swc.released hm.lif hm.spu

theorem LaneAct.lines (ha : s.LaneAct t) (h : s.LinesWf) : t.LinesWf := by
  cases ha with
  | move hm _ _ => exact h.laneMove hm
  | close hm _ => exact (h.laneMove hm).tryRelease

theorem LaneAct.holding (ha : s.LaneAct t) (hl : s.LinesWf) (h : s.HoldingWf) : t.HoldingWf := by
  cases ha with
  | move hm hr _ => exact h.congr (fun e => hm.lif ▸ e) hr
  | close hm _ => exact tryRelease_holding (hl.laneMove hm)

theorem TransmittersWf.laneMove (h : s.TransmittersWf) (hm : s.LaneMove t) : t.TransmittersWf :=
  h.congr hm.identity hm.swc.station (by rw [hm.swc.params]) (fun c => by rw [(hm.records c).static]) fun c => (hm.records c).tx

theorem LaneAct.transmitters (ha : s.LaneAct t) (h : s.TransmittersWf) : t.TransmittersWf := by
  cases ha with
  | move hm _ _ => exact h.laneMove hm
  | close hm _ => exact tryRelease_of (h.laneMove hm) fun _ => (h.laneMove hm).release

theorem CountsWf.laneMove (h : s.CountsWf) (hm : s.LaneMove t) : t.CountsWf :=
  h.of_kept hm.swc.station hm.swc.params hm.records

theorem LaneAct.counts (ha : s.LaneAct t) (h : s.CountsWf) : t.CountsWf := by
  cases ha with
  | move hm _ _ => exact h.laneMove hm
  | close hm _ => exact tryRelease_of (h.laneMove hm) fun _ => (h.laneMove hm).release

theorem IdentsWf.laneMove (h : s.IdentsWf) (hm : s.LaneMove t) : t.IdentsWf :=
  h.of_kept hm.swc.station fun c => (hm.records c).ident

theorem LaneAct.idents (ha : s.LaneAct t) (h : s.IdentsWf) : t.IdentsWf := by
  cases ha with
  | move hm _ _ => exact h.laneMove hm
  | close hm _ => exact tryRelease_of (h.laneMove hm) fun _ => (h.laneMove hm).release

theorem LaneAct.peers (ha : s.LaneAct t) (h : s.PeersWf) : t.PeersWf := by
  cases ha with
  | move hm _ _ => exact hm.peers h
  | close hm _ => exact tryRelease_of (hm.peers h) fun _ => (hm.peers h).release

theorem QueueWf.laneMove (h : s.QueueWf) (hm : s.LaneMove t) : t.QueueWf :=
  h.congr hm.identity hm.swc.station hm.swc.released hm.cfe

theorem LaneAct.queue (ha : s.LaneAct t) (h : s.QueueWf) : t.QueueWf := by
  cases ha with
  | move hm _ _ => exact h.laneMove hm
  | close hm _ => exact tryRelease_of (h.laneMove hm) (h.laneMove hm).release

/-- R142, R152: a scan that has settled is in no queue of an arbitrated station. -/
theorem Arbitrated.scanDone (h : s.Arbitrated) {c : Chan} (hc : (s.chan c).scan.state = .settled) : s.ScanDone c :=
  ⟨hc, fun e => by rw [(h.serves c).scan_pending, hc] at e; cases e⟩

theorem SettledWf.laneMove (h : s.SettledWf) (harb : s.Arbitrated) (hm : s.LaneMove t) : t.SettledWf :=
  h.of_settled hm.identity (fun st _ e => by rwa [itemsDone_congr hm.swc.station hm.swc.released] at e) fun c _ =>
    ⟨(hm.records c).ident.settled, (hm.records c).soak.settled, (hm.records c).stress.settled,
      fun e => (hm.scans c (harb.scanDone e)).1⟩

theorem LaneAct.settled (ha : s.LaneAct t) (harb : s.Arbitrated) (h : s.SettledWf) : t.SettledWf := by
  cases ha with
  | move hm _ _ => exact h.laneMove harb hm
  | close hm _ => exact tryRelease_of (h.laneMove harb hm) (h.laneMove harb hm).release

/-- R28, R100, R101: in DONE no receiver is at work and no grant stands. -/
theorem Arbitrated.not_awake (h : s.Arbitrated) (hs : s.swc.station = .done) : ¬ s.Awake := by
  have hrest : s.swc.station.lanesRun = false := by rw [hs]; rfl
  have hoff : ∀ c, (s.chan c).rx.state = .off ∨ (s.chan c).rx.state = .dead := fun c => (h.lane c).rests hrest
  rintro (e | ⟨c, ho, hd⟩ | e)
  · rw [hs] at e; cases e
  · exact (hoff c).elim ho hd
  · obtain ⟨g, hg⟩ := Option.ne_none_iff_exists'.1 e
    cases hp : g.procedure with
    | spot first =>
      have hx := (h.serves g.channel).spot_granted.1 ⟨g, first, hg, rfl, hp⟩
      rcases hoff g.channel with e | e <;> rw [hx] at e <;> cases e
    | scan st rd =>
      have hx := (h.lane g.channel).scan_locked (.inr ((h.serves g.channel).scan_granted.1 ⟨g, st, rd, hg, rfl, hp⟩))
      rcases hoff g.channel with e | e <;> rw [hx] at e <;> cases e

/-- R158: a lane event changes no lamp, and in DONE nothing that the slot verdict reads. -/
theorem LampsWf.laneMove (h : s.LampsWf) (harb : s.Arbitrated) (hm : s.LaneMove t)
    (ha : s.Awake ∨ t.channels = s.channels ∧ t.swc.flags = s.swc.flags) : t.LampsWf := by
  refine h.of_patterns (by rw [hm.swc.lampOk]) (by rw [hm.swc.lampFlt])
    (lampPatterns_congr hm.swc.station hm.swc.foreignSweep fun hs => ?_)
  rcases ha with ha | ⟨hc, hf⟩
  · exact absurd ha (harb.not_awake hs)
  · exact slotVerdict_congr hm.identity hc hm.swc.params hf hm.swc.haltReason

theorem LaneAct.lamps (ha : s.LaneAct t) (harb : s.Arbitrated) (h : s.LampsWf) : t.LampsWf := by
  cases ha with
  | move hm _ ha => exact h.laneMove harb hm ha
  | close hm ha => exact tryRelease_of (h.laneMove harb hm (.inl ha)) fun _ => (h.laneMove harb hm (.inl ha)).release

/-! ### What a run keeps -/

/-- What every lane event keeps, a lane command keeps. -/
theorem LaneRun.keeps {P : State → Prop} (hr : s.LaneRun t) (hP : ∀ {u v : State}, u.LaneAct v → P u → P v) (h : P s) :
    P t := by
  cases hr with
  | one ha => exact hP ha h
  | two ha _ ha' => exact hP ha' (hP ha h)

/-- The same for what every lane event keeps of a station whose lines are well formed. -/
theorem LaneRun.keeps_with_lines {P : State → Prop} (hr : s.LaneRun t) (hP : ∀ {u v : State}, u.LaneAct v → u.LinesWf → P u → P v)
    (hl : s.LinesWf) (h : P s) : P t :=
  (hr.keeps (P := fun u => u.LinesWf ∧ P u) (fun ha hu => ⟨ha.lines hu.1, hP ha hu.1 hu.2⟩) ⟨hl, h⟩).2

/-- The same for what every lane event keeps of an arbitrated station. -/
theorem LaneRun.keeps_arbitrated {P : State → Prop} (hr : s.LaneRun t) (harb : s.Arbitrated)
    (hP : ∀ {u v : State}, u.LaneAct v → u.Arbitrated → P u → P v) (h : P s) : P t := by
  cases hr with
  | one ha => exact hP ha harb h
  | two ha hu ha' => exact hP ha' (hu harb) (hP ha harb h)

/-! ### The events -/

theorem LaneAct.refl (s : State) : s.LaneAct s := .move (.refl s) id (.inr ⟨rfl, rfl⟩)

theorem LaneRun.refl (s : State) : s.LaneRun s := .one (.refl s)

/-- R24, R113: the close of an event. -/
theorem LaneAct.finish (before : State) {u : State} (h : s.LaneMove u) (ha : s.Awake) : s.LaneAct (State.finish before u) := by
  rcases finish_cases before u with e | ⟨e, -⟩ <;> rw [e]
  · exact .close h ha
  · exact .close (h.trans (.completeIdentify u)) ha

/-- A change of one record that settles nothing. -/
theorem LaneAct.mapChan {c : Chan} {f : Channel → Channel} (hr : (s.chan c).Kept s.swc.params (f (s.chan c)))
    (hi : (f (s.chan c)).ident = (s.chan c).ident) (hk : (f (s.chan c)).soak = (s.chan c).soak)
    (hx : (f (s.chan c)).stress = (s.chan c).stress) (hs : (f (s.chan c)).scan = (s.chan c).scan) (ha : s.Awake) :
    s.LaneAct (s.mapChan c f) := by
  refine .move (.mapChan hr fun e => hs ▸ e) (releaseReady_of_items rfl rfl rfl rfl rfl fun d => ?_) (.inl ha)
  rw [mapChan_chan]
  split
  · rename_i e
    subst e
    rw [hi, hk, hx, hs]
    exact ⟨id, id, id, id⟩
  · exact ⟨id, id, id, id⟩

/-- A change of one receiver that is at work. -/
theorem LaneAct.mapRx {c : Chan} {f : Channel → Channel} (hf : ∃ x, f (s.chan c) = { s.chan c with rx := x })
    (ho : (s.chan c).rx.state ≠ .off) (hd : (s.chan c).rx.state ≠ .dead) : s.LaneAct (s.mapChan c f) := by
  obtain ⟨x, hx⟩ := hf
  refine .mapChan ?_ ?_ ?_ ?_ ?_ (.inr (.inl ⟨c, ho, hd⟩)) <;> rw [hx]
  exact .of_eq rfl rfl rfl rfl rfl

/-- R151: a grant decision settles nothing. -/
theorem arbitrate_settles_nothing (s : State) (d : Chan) (h : (s.arbitrate.chan d).scan.state = .settled) :
    (s.chan d).scan.state = .settled := by
  rcases s.arbitrate_cases with e | ⟨c, cs, -, -, -, e⟩ | ⟨c, cs, -, -, -, e⟩ <;> rw [e] at h
  · exact h
  · rw [mapChan_chan, mapEmn_chan] at h
    split at h <;> exact h
  · rw [mapChan_chan, mapEmn_chan] at h
    split at h
    · cases h
    · exact h

theorem execTokenPeriodStart_lane {c : Chan} (h : execTokenPeriodStart c s = .next t) : s.LaneRun t := by
  unfold execTokenPeriodStart at h
  split at h <;> cases h
  case h_1 x st htx hs =>
    refine .one (.mapChan ⟨rfl, ?_, .refl _, .refl _ _, .refl _ _⟩ rfl rfl rfl rfl (.inl (by rw [hs]; rfl)))
    rw [htx]
    exact rfl
  case h_2 => exact .refl s

theorem execClockAcquired_lane {c : Chan} (h : execClockAcquired c s = .next t) : s.LaneRun t := by
  unfold execClockAcquired at h
  split at h <;> cases h
  case isTrue hx => exact .one (.mapRx ⟨_, rfl⟩ (by simp [hx]) (by simp [hx]))
  case isFalse => exact .refl s

/-- R92, R95, R141: a failed attempt of a receiver at work. -/
theorem LaneAct.failAttempt {c : Chan} {u : State} (h : s.LaneMove u) (ha : s.Awake) : s.LaneAct (u.failAttempt c) := by
  refine .finish u (h.trans ?_) ha
  refine (LaneMove.mapEmn fun d e => ?_).trans ((LaneMove.countFailure c _).trans (.arbitrate _))
  exact e

/-- R94, R147: a lock loss of a receiver at work. -/
theorem LaneAct.loseLock {c : Chan} {u : State} (h : s.LaneMove u) (hr : u.releaseReady = true → s.releaseReady = true)
    (ha : s.Awake) : s.LaneAct (u.loseLock c) := by
  unfold State.loseLock
  split
  case h_1 st _ =>
    refine .finish u (h.trans ?_) ha
    have hrec : u.LaneMove (u.mapChan c (loseRecord st)) := .mapChan (loseRecord_kept _ st _) fun e => by
      have hlose : (u.chan c).scan.lose.state = .settled := by rw [Scan.lose_settled e]; exact e
      exact hlose
    refine hrec.trans ?_
    refine (LaneMove.mapEmn fun d e => ?_).trans ((LaneMove.countFailure c _).trans (.arbitrate _))
    exact List.mem_of_mem_erase e
  all_goals exact .move h hr (.inl ha)

theorem execAcquisitionTimeout_lane {c : Chan} (h : execAcquisitionTimeout c s = .next t) : s.LaneRun t := by
  unfold execAcquisitionTimeout at h
  split at h <;> cases h
  case isTrue hx => exact .one (.failAttempt (.refl s) (.inr (.inl ⟨c, by simp [hx], by simp [hx]⟩)))
  case isFalse => exact .refl s

theorem execSearchTimeout_lane {c : Chan} (h : execSearchTimeout c s = .next t) : s.LaneRun t := by
  unfold execSearchTimeout at h
  split at h <;> cases h
  case isTrue hx => exact .one (.failAttempt (.refl s) (.inr (.inl ⟨c, by simp [hx], by simp [hx]⟩)))
  case isFalse => exact .refl s

theorem execClockLoss_lane {c : Chan} (h : execClockLoss c s = .next t) : s.LaneRun t := by
  unfold execClockLoss at h
  split at h <;> cases h
  case h_1 hx | h_2 hx | h_3 hx =>
    exact .one (.failAttempt (.refl s) (.inr (.inl ⟨c, by simp [hx], by simp [hx]⟩)))
  case h_4 hx => exact .one (.loseLock (.refl s) id (.inr (.inl ⟨c, by simp [hx], by simp [hx]⟩)))
  all_goals exact .refl s

theorem execSearchSuccess_lane {c : Chan} {f1 f2 : BitVec 32} {seed : BitVec 31} {next : BitVec 1024}
    (h : execSearchSuccess c f1 f2 seed next s = .next t) : s.LaneRun t := by
  unfold execSearchSuccess at h
  split at h
  case isFalse => cases h; exact .refl s
  case isTrue hx =>
    split at h <;> cases h
    case h_2 => exact .refl s
    case h_1 pol ref _ =>
      refine .one (.move ?_ (fun hr => ?_) (.inl (.inr (.inl ⟨c, by simp [hx], by simp [hx]⟩))))
      · exact (LaneMove.mapChan_rx ⟨_, rfl⟩).trans ((LaneMove.mapEmn fun d e => e).trans (.arbitrate _))
      · refine releaseReady_of_items (by simp) (by simp) (by simp) (by simp) (by simp) (fun d => ?_) hr
        refine ⟨?_, ?_, ?_, fun e => ?_⟩
        · rw [arbitrate_chan, mapEmn_chan, mapChan_chan]
          split <;> exact id
        · rw [arbitrate_chan, mapEmn_chan, mapChan_chan]
          split <;> exact id
        · rw [arbitrate_chan, mapEmn_chan, mapChan_chan]
          split <;> exact id
        · have := arbitrate_settles_nothing _ d e
          rw [mapEmn_chan, mapChan_chan] at this
          split at this <;> exact this

theorem execRetrainTimerExpiry_lane {c : Chan} (h : execRetrainTimerExpiry c s = .next t) : s.LaneRun t := by
  unfold execRetrainTimerExpiry at h
  split at h <;> cases h
  case isTrue hx => exact .one (.mapRx ⟨_, rfl⟩ (by simp [hx.1]) (by simp [hx.1]))
  case isFalse => exact .refl s

theorem execTokenBlockEnd_lane {c : Chan} {marker w : BitVec 32} (h : execTokenBlockEnd c marker w s = .next t) : s.LaneRun t := by
  unfold execTokenBlockEnd at h
  dsimp only at h
  split at h
  case isFalse => cases h; exact .refl s
  case isTrue hx =>
    obtain ⟨ho, hd⟩ := following_ne hx
    have ha : s.Awake := .inr (.inl ⟨c, ho, hd⟩)
    have hmiss : ∀ n, s.LaneMove (s.mapChan c (setMiss n)) := fun n => .mapChan_rx ⟨_, rfl⟩
    have hact : ∀ n, s.LaneAct (s.mapChan c (setMiss n)) := fun n => .mapRx ⟨_, rfl⟩ ho hd
    have hready : ∀ n, (s.mapChan c (setMiss n)).releaseReady = true → s.releaseReady = true := fun n =>
      releaseReady_of_items rfl rfl rfl rfl rfl fun d => by
        rw [mapChan_chan]
        split <;> exact ⟨id, id, id, id⟩
    split at h
    · split at h <;> cases h
      · exact .one (.finish s ((hmiss 0).trans (.takeBlock c w _)) ha)
      · exact .one (hact 0)
    · split at h
      · split at h <;> cases h
        · exact .one (.loseLock (hmiss _) (hready _) ha)
        · exact .one (.failAttempt (hmiss _) ha)
      · split at h <;> cases h
        · exact .one (.finish s ((hmiss _).trans (.takeNoToken c _)) ha)
        · exact .one (hact _)

/-- R120: no count settles as it starts. -/
theorem start_settles_nothing {k : StageCount} (h : k.start.state = .settled) : k.state = .settled := by
  unfold StageCount.start at h
  split at h
  · cases h
  · exact h

theorem delayRecord_settles_nothing (st : Stage) (r : Channel) :
    ((delayRecord st r).soak.state = .settled → r.soak.state = .settled) ∧
      ((delayRecord st r).stress.state = .settled → r.stress.state = .settled) := by
  unfold delayRecord
  split
  · cases st with
    | soak => exact ⟨start_settles_nothing, id⟩
    | stress => exact ⟨id, start_settles_nothing⟩
    | _ => exact ⟨id, id⟩
  · exact ⟨id, id⟩

theorem execSettleDelayExpiry_lane (h : execSettleDelayExpiry s = .next t) : s.LaneRun t := by
  unfold execSettleDelayExpiry at h
  split at h
  case isFalse => cases h; exact .refl s
  case isTrue =>
    have hdelay : s.LaneMove (s.mapSwc fun w => { w with settleDelay := .stopped }) :=
      .mapSwc ⟨rfl, rfl, rfl, rfl, rfl, rfl, rfl⟩
    dsimp only at h
    split at h <;> cases h
    case h_1 st hs =>
      refine .one (.move (hdelay.trans (.mapInUse (fun c => delayRecord_kept _ _ _) fun c e => by simpa using e)) ?_
        (.inl (.inl (by rw [hs]; rfl))))
      refine releaseReady_of_items rfl rfl rfl rfl rfl fun c => ?_
      rw [mapInUse_chan]
      split
      · obtain ⟨hk, hx⟩ := delayRecord_settles_nothing st (s.chan c)
        exact ⟨by simp, hk, hx, by simp⟩
      · exact ⟨id, id, id, id⟩
    all_goals
      have hready := releaseReady_congr (s := s) (t := s.mapSwc fun w => { w with settleDelay := .stopped }) rfl rfl rfl rfl rfl rfl
      exact .one (.move hdelay (fun e => hready.symm.trans e) (.inr ⟨rfl, rfl⟩))

/-- R138, R140, R144 to R146, R151: the end of a point. -/
theorem LaneAct.takePoint {g : Grant} (hg : s.emn.grant = some g) (isOpen : Bool) : s.LaneAct (s.takePoint g isOpen) := by
  have ha : s.Awake := .inr (.inr (by simp [hg]))
  have hfree : s.LaneMove (s.mapEmn Emn.free) := .mapEmn fun _ => id
  have hpoint : ∀ pr pt, s.LaneAct (s.startPoint g.channel pr pt) := fun pr pt =>
    .move (.mapEmn fun _ => id) (fun e => (releaseReady_congr (s := s) rfl rfl rfl rfl rfl rfl).symm.trans e) (.inl ha)
  have hscan : ∀ o figs, s.LaneAct (s.endScan g.channel o figs) := fun o figs => by
    refine .finish s ((LaneMove.mapChan ?_ fun _ => rfl).trans ((LaneMove.mapEmn fun _ => id).trans (.arbitrate _))) ha
    exact .of_eq rfl rfl rfl rfl rfl
  unfold State.takePoint
  split
  · exact hpoint _ _
  · unfold State.endSpot
    dsimp only
    split
    · exact .finish s (hfree.trans ((LaneMove.lock _ _).trans (.arbitrate _))) ha
    · exact .finish s (hfree.trans ((LaneMove.countFailure _ _).trans (.arbitrate _))) ha
  · split
    · exact hpoint _ _
    · exact hscan _ _
    · exact hscan _ _

/-- R121, R122, R138: a compared bit. -/
theorem LaneAct.takeCompared (c : Chan) (received monitor : Bool) (s : State) : s.LaneAct (s.takeCompared c received monitor) := by
  unfold State.takeCompared
  split
  case h_2 => exact .refl s
  case h_1 ref _ =>
    split
    case isFalse => exact .refl s
    case isTrue hx =>
      obtain ⟨ho, hd⟩ := following_ne hx
      refine .finish s ((LaneMove.takeLaneBit c ref received s).trans (.mapEmn fun d e => ?_)) (.inr (.inl ⟨c, ho, hd⟩))
      unfold Emn.takeBit at e
      split at e
      · split at e <;> exact e
      · exact e

theorem execPointEnd_lane {b : Bool} (h : execPointEnd b s = .next t) : s.LaneRun t := by
  cases h
  exact .one (endPoint_of s.LaneAct (.refl s) fun _ hg => .takePoint hg _)

theorem execComparedBit_lane {c : Chan} {received monitor : Bool} (h : execComparedBit c received monitor s = .next t) :
    s.LaneRun t := by
  cases h
  exact .two (endPointOf_of c s.LaneAct (.refl s) fun _ hg => .takePoint hg _) (·.endPointOf c)
    (.takeCompared c received monitor _)

/-- R21: the limit of a stage that settles items. -/
theorem LaneAct.expire {st : Stage} (hs : s.swc.station = .inStage st) :
    s.LaneAct (State.finish s (s.markLimit.expireItems st)) :=
  .finish s ((LaneMove.mapSwc ⟨rfl, rfl, rfl, rfl, rfl, rfl, rfl⟩).trans (.expireItems st _)) (.inl (by rw [hs]; rfl))

end State
end Sys2Proof.Machine
end

section
/-! SUPPORT. What a halt, a stage entry, a sweep's start, a probe round and the two ends of a reset leave of each invariant. -/
namespace Sys2Proof.Machine

/-- The stage codes tell the stages apart. -/
theorem Stage.code_injective {a b : Stage} (h : a.code = b.code) : a = b := by
  cases a <;> cases b <;> simp_all [Stage.code]

/-! ### Records at a halt and at a stage entry -/

/-- R127: a halt settles every count. -/
theorem StageCount.halt_settled (k : StageCount) : k.halt.state = .settled := by
  unfold StageCount.halt
  split
  case h_4 hs => exact hs
  all_goals rfl

theorem StageCount.halt_wf {t : Nat} {k : StageCount} (h : k.Wf t) : k.halt.Wf t := by
  unfold StageCount.halt
  split
  case h_1 hs =>
    obtain ⟨-, hn, he⟩ := (wf_unstarted (.inl hs)).1 h
    exact wf_settle_unrun hn he (.inr rfl)
  case h_2 hs =>
    obtain ⟨-, hn, he⟩ := (wf_unstarted (.inr hs)).1 h
    exact wf_settle_cut (by rw [he]; exact Nat.zero_lt_succ 15)
      (by rw [he, hn]; exact countThreshold_pos t (Nat.zero_lt_succ 15)) (.inr (.inr rfl))
  case h_3 hs =>
    obtain ⟨-, he, hn⟩ := (wf_counting hs).1 h
    exact wf_settle_cut he hn (.inr (.inr rfl))
  case h_4 => exact h

/-- R119, R124: the count of an entered stage. -/
theorem StageCount.enter_wf {t : Nat} {k : StageCount} (h : k.Wf t) (hs : k.state = .idle) (dead : Bool) : (k.enter dead).Wf t := by
  obtain ⟨ho, hn, he⟩ := (wf_unstarted (.inl hs)).1 h
  cases dead with
  | true => exact wf_settle_unrun hn he (.inl rfl)
  | false => exact (wf_unstarted (k := { k with state := .waiting }) (.inr rfl)).2 ⟨ho, hn, he⟩

/-- R114: a halt settles every identification. -/
theorem Ident.halt_settled (i : Ident) : i.halt.state = .settled := by
  unfold Ident.halt
  split
  case h_3 hs => exact hs
  all_goals rfl

theorem Ident.halt_wf {i : Ident} (h : i.Wf) : i.halt.Wf := by
  unfold Ident.halt
  split
  case h_3 => exact h
  all_goals exact h.settle _

/-- R103: the identification of an entered IDENTIFY. -/
theorem Ident.open_wf {i : Ident} (h : i.Wf) (hs : i.state = .idle) : Ident.Wf { i with state := .opened } := by
  rw [h.idle_initial hs]
  constructor <;> simp [Ident.initial, matchTarget, undecodedTarget]

theorem Scan.halt_settled (k : Scan) : k.halt.state = .settled := by
  unfold Scan.halt
  split
  case h_5 hs => exact hs
  all_goals rfl

theorem Ident.initial_wf : Ident.initial.Wf := by
  constructor <;> simp [Ident.initial, matchTarget, undecodedTarget]

namespace State

variable {s t : State}

/-! ### A fresh record everywhere -/

/-- R13, R18: every record is the initial one. -/
theorem CountsWf.of_initial (h : ∀ c, s.chan c = Channel.initial) : s.CountsWf where
  soak := fun c => by rw [h]; exact ⟨rfl, rfl⟩
  stress := fun c => by rw [h]; exact ⟨rfl, rfl⟩
  soak_idle := fun _ c _ _ => by rw [h]; rfl
  stress_idle := fun _ c _ _ => by rw [h]; rfl

theorem IdentsWf.of_initial (h : ∀ c, s.chan c = Channel.initial) : s.IdentsWf where
  items := fun c => by rw [h]; exact Ident.initial_wf
  idle := fun _ c _ _ => by rw [h]; rfl

theorem TransmittersWf.of_initial (h : ∀ c, s.chan c = Channel.initial) (hs : s.swc.station.lanesRun = false) : s.TransmittersWf :=
  .of_off hs fun c => by rw [h]; rfl

/-- The transmitter of an unused channel is OFF. -/
theorem TransmittersWf.off_unused (h : s.TransmittersWf) {c : Chan} (hc : s.inUse c = false) : (s.chan c).tx = .off := by
  have hx := h c
  cases htx : (s.chan c).tx with
  | off => rfl
  | running x =>
    rw [htx] at hx
    simp [txAsked, hc] at hx

/-! ### The findings of a probe round -/

/-- R72: the state is s, or s with the findings of a round written and the probe moved on. -/
def Found (s u : State) : Prop := u = s ∨ ∃ p x, s.spu = .probing p ∧ u = (s.writeFindings p).setSpu x

theorem writeFindings_chan (p : ProbeRound) (s : State) (c : Chan) : (s.writeFindings p).chan c =
    if s.inUse c then { s.chan c with static := roundFindings p (s.bridgePartner p.round) c (s.chan c).static } else s.chan c := by
  unfold writeFindings
  rw [mapInUse_chan]

namespace Found

variable {u : State}

theorem swc (h : s.Found u) : u.swc = s.swc := by
  obtain rfl | ⟨p, x, -, rfl⟩ := h <;> rfl

theorem identity (h : s.Found u) : u.identity = s.identity := by
  obtain rfl | ⟨p, x, -, rfl⟩ := h <;> rfl

theorem lif (h : s.Found u) : u.lif = s.lif := by
  obtain rfl | ⟨p, x, -, rfl⟩ := h <;> rfl

theorem cfe (h : s.Found u) : u.cfe = s.cfe := by
  obtain rfl | ⟨p, x, -, rfl⟩ := h <;> rfl

theorem peers (h : s.Found u) : u.peers = s.peers := by
  obtain rfl | ⟨p, x, -, rfl⟩ := h <;> rfl

/-- A finding is a static item. -/
theorem chan (h : s.Found u) (c : Chan) : u.chan c = { s.chan c with static := (u.chan c).static } := by
  obtain rfl | ⟨p, x, -, rfl⟩ := h
  · rfl
  · rw [setSpu_chan, writeFindings_chan]
    split <;> rfl

theorem lines (h : s.Found u) (hl : s.LinesWf) : u.LinesWf := by
  obtain rfl | ⟨p, x, hp, rfl⟩ := h
  · exact hl
  · have hs : s.swc.station = .inStage .static := hl.probe_static (by simp [hp])
    obtain ⟨h1, h2, h3, h4, h5, h6, h7, h8, h9, h10, h11, h12, h13⟩ := hl
    constructor
    case probe_static => exact fun _ => hs
    all_goals assumption

theorem transmitters (h : s.Found u) (hl : s.LinesWf) (ht : s.TransmittersWf) : u.TransmittersWf := by
  have htx : ∀ c, (u.chan c).tx = (s.chan c).tx := fun c => by rw [h.chan]
  obtain rfl | ⟨p, x, hp, rfl⟩ := h
  · exact ht
  · have hrest : s.swc.station.lanesRun = false := by
      rw [hl.probe_static (by simp [hp])]
      rfl
    exact .of_off hrest fun c => (htx c).trans (ht.off hrest c)

theorem counts (h : s.Found u) (hk : s.CountsWf) : u.CountsWf :=
  hk.restation (by rw [h.swc]; exact ⟨rfl, rfl⟩) (fun c => by rw [h.chan]; exact ⟨rfl, rfl⟩) fun st e =>
    ⟨st, by rw [← h.swc]; exact e, le_rfl⟩

theorem idents (h : s.Found u) (hi : s.IdentsWf) : u.IdentsWf :=
  hi.restation (fun c => by rw [h.chan]) fun st e => ⟨st, by rw [← h.swc]; exact e, le_rfl⟩

theorem settled (h : s.Found u) (hs : s.SettledWf) : u.SettledWf :=
  hs.of_settled h.identity (fun st _ e => (itemsDone_congr (by rw [h.swc]) (by rw [h.swc]) st).symm.trans e) fun c _ => by
    rw [h.chan]
    exact ⟨id, id, id, id⟩

theorem lamps (h : s.Found u) (hl : s.LinesWf) (hw : s.LampsWf) : u.LampsWf := by
  refine hw.of_patterns (by rw [h.swc]) (by rw [h.swc]) ?_
  obtain rfl | ⟨p, x, hp, rfl⟩ := h
  · rfl
  · have hs : s.swc.station = .inStage .static := hl.probe_static (by simp [hp])
    exact lampPatterns_congr rfl rfl fun e => by rw [hs] at e; cases e

end Found

/-! ### A halt -/

variable {st : Stage}

theorem haltIn_holding (why : HaltReason) (st : Stage) (s : State) : (s.haltIn why st).HoldingWf := by
  intro e
  rw [haltIn_lif] at e
  cases e

theorem TransmittersWf.haltIn (h : s.TransmittersWf) (why : HaltReason) (st : Stage) : (s.haltIn why st).TransmittersWf := by
  refine .of_off (by rw [haltIn_swc]; rfl) fun c => ?_
  rw [haltIn_chan]
  split
  case isTrue => rfl
  case isFalse hc => exact h.off_unused (by simpa using hc)

/-- A halted station is in no stage. -/
theorem haltIn_no_stage {why : HaltReason} {st' : Stage} {P : Prop} (e : (s.haltIn why st).swc.station = .inStage st') : P := by
  rw [haltIn_swc] at e
  cases e

theorem haltIn_params (why : HaltReason) (st : Stage) (s : State) : (s.haltIn why st).swc.params = s.swc.params := by simp

theorem CountsWf.haltIn (h : s.CountsWf) (why : HaltReason) (st : Stage) : (s.haltIn why st).CountsWf where
  soak := fun c => by
    rw [haltIn_params, haltIn_chan]
    split
    · exact StageCount.halt_wf (h.soak c)
    · exact h.soak c
  stress := fun c => by
    rw [haltIn_params, haltIn_chan]
    split
    · exact StageCount.halt_wf (h.stress c)
    · exact h.stress c
  soak_idle := fun _ _ e => haltIn_no_stage e
  stress_idle := fun _ _ e => haltIn_no_stage e

theorem IdentsWf.haltIn (h : s.IdentsWf) (why : HaltReason) (st : Stage) : (s.haltIn why st).IdentsWf where
  items := fun c => by
    rw [haltIn_chan]
    split
    · exact Ident.halt_wf (h.items c)
    · exact h.items c
  idle := fun _ _ e => haltIn_no_stage e

theorem haltIn_settled (why : HaltReason) (st : Stage) (s : State) : (s.haltIn why st).SettledWf := by
  have hrec : ∀ c, (s.haltIn why st).inUse c = true → (s.haltIn why st).chan c = (s.chan c).haltRecord := fun c hc => by
    rw [haltIn_inUse] at hc
    rw [haltIn_chan, if_pos hc]
  constructor
  case ident => exact fun _ c hc => by rw [hrec c hc]; exact Ident.halt_settled _
  case soak => exact fun _ c hc => by rw [hrec c hc]; exact StageCount.halt_settled _
  case stress => exact fun _ c hc => by rw [hrec c hc]; exact ⟨StageCount.halt_settled _, Scan.halt_settled _⟩

/-- R158: the lamps of a station in a sweep. -/
theorem lampPatterns_sweep (h : s.swc.station.inSomeStage = true ∨ ∃ st, s.swc.station = .halted st) :
    s.lampPatterns = (.blink .twoHz, .off) := by
  unfold lampPatterns
  cases hs : s.swc.station with
  | inStage st => rfl
  | halted st => rfl
  | _ => rw [hs] at h; rcases h with h | ⟨st, h⟩ <;> cases h

theorem LampsWf.haltIn (h : s.LampsWf) (hs : s.swc.station = .inStage st) (why : HaltReason) : (s.haltIn why st).LampsWf := by
  refine h.of_patterns (by simp) (by simp) ?_
  rw [lampPatterns_sweep (.inr ⟨st, by simp⟩), lampPatterns_sweep (.inl (by rw [hs]; rfl))]

/-! ### The reports in the queue -/

theorem mem_reports (s : State) (e : Entry) : e ∈ s.reports ↔ e = .slotrep ∨ ∃ c, s.inUse c = true ∧ e = .lanerep c := by
  simp only [reports, List.mem_append, List.mem_map, List.mem_filter, List.mem_finRange, true_and, List.mem_singleton]
  constructor
  · rintro (⟨c, hc, rfl⟩ | rfl)
    · exact .inr ⟨c, hc, rfl⟩
    · exact .inl rfl
  · rintro (rfl | ⟨c, hc, rfl⟩)
    · exact .inr rfl
    · exact .inl ⟨c, hc, rfl⟩

/-- R27, R32, R160: the reports in the queue of a station that reports, with no frame on the line. -/
theorem QueueWf.of_reports (hq : t.cfe.queue = t.reports) (hl : t.cfe.onLine = none)
    (hs : (∃ st, t.swc.station = .halted st) ∨ t.swc.station = .inStage .report ∧ t.swc.released = false) : t.QueueWf := by
  have hst : ∀ {x}, t.swc.station = x → (∃ st, x = .halted st) ∨ x = .inStage .report ∧ t.swc.released = false := fun e => e ▸ hs
  have hno : Entry.present ∉ t.cfe.queue := by
    rw [hq, mem_reports]
    rintro (e | ⟨c, -, e⟩) <;> cases e
  have hne : t.cfe.queue ≠ [] := by
    rw [hq]
    simp [reports]
  exact {
    once := hq ▸ reports_nodup t
    in_use := fun c e => by
      rw [hq, mem_reports] at e
      obtain e | ⟨d, hd, e⟩ := e <;> cases e
      exact hd
    present_alone := fun e => absurd e hno
    muster_only := fun e => by simpa using hst e
    present_when := fun e => absurd e hno
    empty_when := by
      rintro (e | e | ⟨st, e, hr⟩)
      · simpa using hst e
      · simpa using hst e
      · obtain ⟨rfl, hrel⟩ : st = .report ∧ t.swc.released = false := by simpa using hst e
        rcases hr with hr | ⟨-, hr⟩
        · rw [hrel] at hr; cases hr
        · exact absurd rfl hr
    reports_left := fun _ => hne
    on_line := fun lf e => by rw [hl] at e; cases e
    follows_own := fun e => absurd hl e }

/-- R159: an empty queue, with nothing on the line. -/
theorem QueueWf.of_empty (hq : s.cfe.queue = []) (hl : s.cfe.onLine = none) (hs : ∀ st, s.swc.station ≠ .halted st) : s.QueueWf where
  once := hq ▸ .nil
  in_use := fun c e => by rw [hq] at e; cases e
  present_alone := fun e => by rw [hq] at e; cases e
  muster_only := fun _ => .inl hq
  present_when := fun e => by rw [hq] at e; cases e
  empty_when := fun _ => hq
  reports_left := fun ⟨st, e⟩ => absurd e (hs st)
  on_line := fun lf e => by rw [hl] at e; cases e
  follows_own := fun e => absurd hl e

/-- R171: with an empty queue no own frame is on the line. -/
theorem QueueWf.no_line (h : s.QueueWf) (hq : s.cfe.queue = []) : s.cfe.onLine = none := by
  by_contra e
  obtain ⟨lf, e⟩ := Option.ne_none_iff_exists'.1 e
  have := h.on_line lf e
  simp [hq] at this

/-- R16, R163: reports join the queue of a station in BARRED or DONE. -/
theorem QueueWf.extend (h : s.QueueWf) (hs : s.swc.station = .barred ∨ s.swc.station = .done) {q : List Entry}
    (hpre : s.cfe.queue <+: q) (hn : q.Nodup)
    (hm : ∀ e ∈ q, e ∈ s.cfe.queue ∨ e = .slotrep ∨ ∃ c, s.inUse c = true ∧ e = .lanerep c) :
    QueueWf { s with cfe := { s.cfe with queue := q } } := by
  have hst : ∀ {x}, s.swc.station = x → x = .barred ∨ x = .done := fun e => e ▸ hs
  have hno : Entry.present ∉ q := fun e => by
    rcases hm _ e with e | e | ⟨c, -, e⟩
    · obtain ⟨e, -⟩ | ⟨_, e, -⟩ := h.present_when e <;> simpa using hst e
    · cases e
    · cases e
  exact {
    once := hn
    in_use := fun c e => by
      rcases hm _ e with e | e | ⟨d, hd, e⟩
      · exact h.in_use c e
      · cases e
      · cases e; exact hd
    present_alone := fun e => absurd e hno
    muster_only := fun e => by simpa using hst e
    present_when := fun e => absurd e hno
    empty_when := by rintro (e | e | ⟨st, e, -⟩) <;> simpa using hst e
    reports_left := by rintro ⟨st, e⟩; simpa using hst e
    on_line := fun lf e => by
      obtain ⟨more, rfl⟩ := hpre
      have := h.on_line lf e
      rw [List.head?_append, this]
      rfl
    follows_own := h.follows_own }

/-- R159: an entry that joins a queue. -/
theorem enqueue_prefix (q : List Entry) (e : Entry) : q <+: enqueue q e := by
  unfold enqueue
  split
  · exact List.prefix_rfl
  · exact List.prefix_append q [e]

theorem enqueue_nodup {q : List Entry} (h : q.Nodup) (e : Entry) : (enqueue q e).Nodup := by
  unfold enqueue
  split
  case isTrue => exact h
  case isFalse hn =>
    exact List.nodup_append.2 ⟨h, List.nodup_singleton e, fun a ha b hb heq => hn (List.mem_singleton.1 hb ▸ heq ▸ ha)⟩

theorem mem_enqueue {q : List Entry} {e x : Entry} (h : x ∈ enqueue q e) : x ∈ q ∨ x = e := by
  unfold enqueue at h
  split at h
  · exact .inl h
  · exact (List.mem_append.1 h).imp id List.mem_singleton.1

/-- R159: outside REPORT a station in a stage queues its PRESENT alone. -/
theorem QueueWf.queue_in_stage (h : s.QueueWf) (hs : s.swc.station = .inStage st) (hst : st ≠ .report) :
    s.cfe.queue = [] ∨ s.cfe.queue = [.present] := by
  by_cases hm : st = .muster
  · exact h.muster_only (hm ▸ hs)
  · exact .inl (h.empty_when (.inr (.inr ⟨st, hs, .inr ⟨hm, hst⟩⟩)))

theorem QueueWf.haltIn (h : s.QueueWf) (hs : s.swc.station = .inStage st) (hst : st ≠ .report) (why : HaltReason) :
    (s.haltIn why st).QueueWf := by
  have ho := haltIn_outcome why st s
  cases hl : s.cfe.onLine with
  | none =>
    have hc := ho.queue_free hl (h.queue_in_stage hs hst)
    refine .of_reports ?_ (by rw [hc]; exact hl) (.inl ⟨st, by simp⟩)
    rw [hc]
    simp only [reports, haltIn_inUse]
  | some lf =>
    have hhead := h.on_line lf hl
    have hq : s.cfe.queue = [.present] := (h.queue_in_stage hs hst).resolve_left fun e => by simp [e] at hhead
    have he : lf.entry = .present := by simpa [hq] using hhead.symm
    have hm : st = .muster := by
      obtain ⟨hm, -⟩ | ⟨_, hm, -⟩ := h.present_when (by simp [hq]) <;> rw [hs] at hm <;> cases hm
      rfl
    have hc := ho.queue_line lf hl he
    have hq' : (s.haltIn why st).cfe.queue = [.present] := by rw [hc]; exact hq
    exact {
      once := by rw [hq']; simp
      in_use := fun c e => by rw [hq'] at e; simp at e
      present_alone := fun _ => hq'
      muster_only := fun e => haltIn_no_stage e
      present_when := fun _ => .inr ⟨_, by simp [hm], by rw [hc], rfl⟩
      empty_when := by rintro (e | e | ⟨st', e, -⟩) <;> simp at e
      reports_left := fun _ => by rw [hq']; simp
      on_line := fun lf' e => by
        rw [hc] at e
        cases e
        rw [hq', he]
        rfl
      follows_own := fun _ => by
        rw [hc]
        exact h.follows_own (by simp [hl]) }

/-! ### A sweep's start -/

/-- R17, R18: the state in which a BEGIN leaves the station. -/
theorem openSweep_chan (f : BeginFields) (s : State) (c : Chan) : (s.openSweep f).refreshLamps.chan c = Channel.initial := by
  simp [State.chan, openSweep]

theorem openSweep_holding (f : BeginFields) (s : State) : (s.openSweep f).refreshLamps.HoldingWf := by
  intro _
  by_contra e
  have := ((releaseReady_muster (s := (s.openSweep f).refreshLamps) rfl).1 (by simpa using e)).1
  cases this

theorem openSweep_peers {f : BeginFields} (hi : s.identity ≠ none) : (s.openSweep f).refreshLamps.PeersWf where
  ascending := .nil
  range := fun _ e => by cases e
  not_own := fun _ e => by cases e
  expected := fun _ e => by cases e
  in_reset := fun e => absurd e hi

theorem openSweep_queue (f : BeginFields) (s : State) : (s.openSweep f).refreshLamps.QueueWf where
  once := List.nodup_singleton _
  in_use := fun c e => by cases List.mem_singleton.1 e
  present_alone := fun _ => rfl
  muster_only := fun _ => .inr rfl
  present_when := fun _ => .inl ⟨rfl, rfl⟩
  empty_when := by
    rintro (e | e | ⟨st, e, hr⟩) <;> cases e
    rcases hr with hr | ⟨hr, -⟩
    · cases hr
    · exact absurd rfl hr
  reports_left := by rintro ⟨st, e⟩; cases e
  on_line := fun lf e => by cases e
  follows_own := fun e => absurd rfl e

theorem openSweep_settled (f : BeginFields) (s : State) : (s.openSweep f).refreshLamps.SettledWf :=
  .of_none fun st => by cases st <;> rfl

/-! ### A stage entry -/

theorem enterStage_holding (st : Stage) (s : State) : ((s.mapLif Lif.startHoldOff).enterStage st).HoldingWf := by
  intro e
  rw [enterStage_lif] at e
  cases e

/-- Stage st' comes next, so its code is one higher. -/
theorem code_next {st st' : Stage} (h : st.next = some st') : st'.code = st.code + 1 := by
  cases st <;> cases h <;> rfl

/-- R79: the transmitters at IDENTIFY entry: RUNNING at full swing but for the barred ones. -/
theorem TransmittersWf.enterIdentify (h : s.TransmittersWf) : (s.enterStage .identify).TransmittersWf := by
  intro c
  have hasked : (s.enterStage .identify).txAsked c = (s.inUse c && !((s.enterStage .identify).chan c).static.barred) := by
    simp [txAsked, StationState.lanesRun]
  have hswing : (s.enterStage .identify).swingAsked = fullSwing := by simp [swingAsked]
  rw [hasked, hswing, enterStage_identify_chan]
  by_cases hc : s.inUse c = true
  · rw [if_pos hc]
    cases hb : (s.chan c).static.barred <;> simp [Channel.enterIdentify, Channel.startTx, hb, hc]
  · rw [if_neg hc, h.off_unused (by simpa using hc)]
    simp [hc]

/-- R79: the transmitters run on into SOAK. -/
theorem TransmittersWf.enterSoak (h : s.TransmittersWf) (hs : s.swc.station = .inStage .identify) :
    (s.enterStage .soak).TransmittersWf := by
  refine h.of_asked (fun c => ?_) (by simp [swingAsked, hs]) fun c => ?_
  · simp only [txAsked, enterStage_station, enterStage_inUse, hs, StationState.lanesRun, enterStage_soak_chan]
    split <;> rfl
  · rw [enterStage_soak_chan]
    split <;> exact .refl _

/-- R84: the transmitters at STRESS entry take the stress swing. -/
theorem TransmittersWf.enterStress (h : s.TransmittersWf) (hs : s.swc.station = .inStage .soak) :
    (s.enterStage .stress).TransmittersWf := by
  intro c
  have hx := h c
  have hasked : (s.enterStage .stress).txAsked c = s.txAsked c := by
    unfold txAsked
    rw [enterStage_station, enterStage_inUse, hs, enterStage_stress_chan, stressRequests_chan]
    split <;> rfl
  have htx' : ((s.enterStage .stress).chan c).tx = Channel.setSwing s.swc.params.swing (s.chan c).tx := by
    rw [enterStage_stress_chan, stressRequests_chan]
    split
    case isTrue => rfl
    case isFalse hc =>
      rw [h.off_unused (by simpa using hc)]
      rfl
  have hswing : (s.enterStage .stress).swingAsked = s.swc.params.swing := by simp [swingAsked]
  rw [hasked, hswing, htx']
  cases htx : (s.chan c).tx with
  | off => rw [htx] at hx; exact hx
  | running x => rw [htx] at hx; exact ⟨hx.1, rfl⟩

/-- R28, R79, R84: the transmitters that each stage's entry leaves. -/
theorem TransmittersWf.enterStage (h : s.TransmittersWf) {st' : Stage} (hs : s.swc.station = .inStage st) (hn : st.next = some st') :
    (s.enterStage st').TransmittersWf := by
  cases st <;> cases hn
  case muster => exact .of_off (by simp [StationState.lanesRun]) fun c => h.off (by rw [hs]; rfl) c
  case static => exact h.enterIdentify
  case identify => exact h.enterSoak hs
  case soak => exact h.enterStress hs
  case stress =>
    refine .of_off (by simp [StationState.lanesRun]) fun c => ?_
    rw [enterStage_report_chan]
    split
    case isTrue => rfl
    case isFalse hc => exact h.off_unused (by simpa using hc)

/-! ### The records at a stage entry -/

/-- R118: the counts at a stage entry. A stage enters its own count from IDLE, and leaves the other. -/
theorem CountsWf.enterStage (h : s.CountsWf) {st' : Stage} (hs : s.swc.station = .inStage st) (hn : st.next = some st') :
    (s.enterStage st').CountsWf := by
  have hkeep : (∀ c, ((s.enterStage st').chan c).soak = (s.chan c).soak ∧ ((s.enterStage st').chan c).stress = (s.chan c).stress) →
      (s.enterStage st').CountsWf := fun hc =>
    h.restation (by simp) hc fun x e => ⟨st, hs, by
      rw [enterStage_station] at e
      cases e
      rw [code_next hn]
      exact Nat.le_succ _⟩
  cases st <;> cases hn
  case muster => exact hkeep fun c => ⟨rfl, rfl⟩
  case static => exact hkeep fun c => by rw [enterStage_identify_chan]; split <;> exact ⟨rfl, rfl⟩
  case identify =>
    have hstress : ∀ c, ((s.enterStage .soak).chan c).stress = (s.chan c).stress := fun c => by
      rw [enterStage_soak_chan]
      split <;> rfl
    exact {
      soak := fun c => by
        rw [enterStage_params, enterStage_soak_chan]
        split
        · exact StageCount.enter_wf (h.soak c) (h.soak_idle _ c hs (by decide)) _
        · exact h.soak c
      stress := fun c => by rw [enterStage_params, hstress]; exact h.stress c
      soak_idle := fun x c e hx => by
        rw [enterStage_station] at e
        cases e
        exact absurd hx (by decide)
      stress_idle := fun x c e _ => by rw [hstress]; exact h.stress_idle _ c hs (by decide) }
  case soak =>
    have hsoak : ∀ c, ((s.enterStage .stress).chan c).soak = (s.chan c).soak := fun c => by
      rw [enterStage_stress_chan, stressRequests_chan]
      split <;> rfl
    exact {
      soak := fun c => by rw [enterStage_params, hsoak]; exact h.soak c
      stress := fun c => by
        rw [enterStage_params, enterStage_stress_chan, stressRequests_chan]
        split
        · exact StageCount.enter_wf (h.stress c) (h.stress_idle _ c hs (by decide)) _
        · exact h.stress c
      soak_idle := fun x c e hx => by
        rw [enterStage_station] at e
        cases e
        exact absurd hx (by decide)
      stress_idle := fun x c e hx => by
        rw [enterStage_station] at e
        cases e
        exact absurd hx (by decide) }
  case stress => exact hkeep fun c => by rw [enterStage_report_chan]; split <;> exact ⟨rfl, rfl⟩

/-- R103: IDENTIFY entry opens the identification from IDLE, and no other entry changes it. -/
theorem enterStage_ident {st' : Stage} (h : st' ≠ .identify) (s : State) (c : Chan) :
    ((s.enterStage st').chan c).ident = (s.chan c).ident := by
  cases st' with
  | muster => rfl
  | static => rfl
  | identify => exact absurd rfl h
  | soak => rw [enterStage_soak_chan]; split <;> rfl
  | stress => rw [enterStage_stress_chan, stressRequests_chan]; split <;> rfl
  | report => rw [enterStage_report_chan]; split <;> rfl

theorem IdentsWf.enterStage (h : s.IdentsWf) {st' : Stage} (hs : s.swc.station = .inStage st) (hn : st.next = some st') :
    (s.enterStage st').IdentsWf := by
  by_cases hi : st' = .identify
  · subst hi
    obtain rfl : st = .static := by cases st <;> cases hn; rfl
    exact {
      items := fun c => by
        rw [enterStage_identify_chan]
        split
        · exact Ident.open_wf (h.items c) (h.idle _ c hs (by decide))
        · exact h.items c
      idle := fun x c e hx => by
        rw [enterStage_station] at e
        cases e
        exact absurd hx (by decide) }
  · refine h.restation (enterStage_ident hi s) fun x e => ⟨st, hs, ?_⟩
    rw [enterStage_station] at e
    cases e
    rw [code_next hn]
    exact Nat.le_succ _

/-- R20, R24 to R26: the items of the stages left behind, the released one's among them, stay as they are. -/
theorem SettledWf.enterStage (h : s.SettledWf) {st' : Stage} (hs : s.swc.station = .inStage st) (hn : st.next = some st')
    (hr : s.swc.released = true) : (s.enterStage st').SettledWf := by
  have hdone : ∀ x, (s.enterStage st').itemsDone x = true → s.itemsDone x = true ∧ x.code < st'.code := by
    intro x e
    have hlt : x.code < st'.code := by
      rcases (itemsDone_iff (enterStage_station st' s)).1 e with e | ⟨e, -⟩
      · exact e
      · rw [enterStage_released] at e; cases e
    refine ⟨(itemsDone_iff hs).2 ?_, hlt⟩
    rw [code_next hn] at hlt
    rcases Nat.lt_succ_iff_lt_or_eq.1 hlt with e | e
    · exact .inl e
    · refine .inr ⟨hr, ?_⟩
      exact Stage.code_injective e.symm
  have hu : ∀ c, (s.enterStage st').inUse c = true → s.inUse c = true := fun c hc => by rwa [enterStage_inUse] at hc
  constructor
  case ident =>
    intro e c hc
    obtain ⟨hd, hlt⟩ := hdone _ e
    have hi : st' ≠ .identify := by rintro rfl; exact absurd hlt (by decide)
    rw [enterStage_ident hi]
    exact h.ident hd c (hu c hc)
  case soak =>
    intro e c hc
    obtain ⟨hd, hlt⟩ := hdone _ e
    have := h.soak hd c (hu c hc)
    cases st' with
    | stress => rw [enterStage_stress_chan, stressRequests_chan]; split <;> exact this
    | report => rw [enterStage_report_chan]; split <;> exact this
    | _ => exact absurd hlt (by decide)
  case stress =>
    intro e c hc
    obtain ⟨hd, hlt⟩ := hdone _ e
    have := h.stress hd c (hu c hc)
    cases st' with
    | report => rw [enterStage_report_chan]; split <;> exact this
    | _ => exact absurd hlt (by decide)

/-- R27, R160: at every barrier the queue is empty, and REPORT fills it. -/
theorem QueueWf.enterStage (h : s.QueueWf) {st' : Stage} (hs : s.swc.station = .inStage st) (hn : st.next = some st')
    (hr : s.swc.released = true) : (s.enterStage st').QueueWf := by
  have he : s.cfe.queue = [] := h.empty_when (.inr (.inr ⟨st, hs, .inl hr⟩))
  have hl := h.no_line he
  have hkeep : (s.enterStage st').cfe = s.cfe → (s.enterStage st').QueueWf := fun hc =>
    .of_empty (by rw [hc, he]) (by rw [hc, hl]) fun x e => by simp at e
  cases st <;> cases hn
  case muster => exact hkeep rfl
  case static => exact hkeep rfl
  case identify => exact hkeep rfl
  case soak => exact hkeep (by rw [enterStage_stress, arbitrate_cfe]; rfl)
  case stress =>
    have hq := queueReports_outcome (s := ((s.beginStage .report).mapInUse fun _ r => r.enterReport).mapEmn fun _ => Emn.initial) he
    refine .of_reports ?_ ?_ (.inr ⟨rfl, rfl⟩)
    · exact (congrArg (·.cfe.queue) hq).trans rfl
    · exact (congrArg (·.cfe.onLine) hq).trans hl

/-- R158: a station in a sweep goes on blinking. -/
theorem LampsWf.enterStage (h : s.LampsWf) (st' : Stage) (hs : s.swc.station = .inStage st) : (s.enterStage st').LampsWf := by
  refine h.of_patterns (by simp [State.enterStage]) (by simp [State.enterStage]) ?_
  rw [lampPatterns_sweep (.inl (by simp [StationState.inSomeStage])), lampPatterns_sweep (.inl (by rw [hs]; rfl))]

end State
end Sys2Proof.Machine
end

section
/-! SUPPORT. State.ControlAct: the events of the sweep, the two lines, the probe, the frame engine and the lamps, each with the conditions
under which it comes about, and what every one of them keeps. -/
namespace Sys2Proof.Machine
namespace State

/-- One event outside the lanes. A change of one block says what it keeps of that block's own invariant. -/
inductive ControlAct (s : State) : State → Prop
  /-- The two lines. -/
  | line {l : Lif} (hl : s.LinesWf → LinesWf { s with lif := l })
      (hh : l.phase = .holding → s.lif.phase = .holding ∨ s.releaseReady = false) : s.ControlAct { s with lif := l }
  /-- The flags, the foreign-sweep indication and the lamps. -/
  | control {w : Swc} (hs : w.station = s.swc.station) (hp : w.params = s.swc.params) (hr : w.released = s.swc.released)
      (hx : w.limitExpired = s.swc.limitExpired) (hl : s.LampsWf → LampsWf { s with swc := w }) :
      s.ControlAct { s with swc := w }
  /-- The receiver, the frame on the line and the queue. -/
  | frame {f : Cfe} (hq : s.LinesWf → s.QueueWf → QueueWf { s with cfe := f })
      (hh : f.queue = s.cfe.queue ∨ s.swc.station.inSomeStage = false) : s.ControlAct { s with cfe := f }
  /-- A PRESENT of another slot. -/
  | peer {ps : List PeerEntry} (hp : s.PeersWf → PeersWf { s with peers := ps }) : s.ControlAct { s with peers := ps }
  /-- A reading or the current of a probe round. -/
  | reading {p p' : ProbeRound} (hp : s.spu = .probing p) : s.ControlAct { s with spu := .probing p' }
  /-- An event that is closed by a release attempt: a limit, an entry that has left the queue, the end of a probe round. -/
  | attempt {u : State} {w : Swc} {f : Cfe} (hu : s.Found u) (hs : w.station = s.swc.station) (hp : w.params = s.swc.params)
      (hr : w.released = s.swc.released) (hl : u.LampsWf → LampsWf { u with swc := w })
      (hq : s.LinesWf → s.QueueWf → QueueWf { s with cfe := f }) :
      s.ControlAct ({ u with swc := w, cfe := f } : State).tryRelease
  /-- The end of a hold-off with nothing left to do. -/
  | release (hp : s.lif.phase = .holdOff) (hr : s.releaseReady = true) : s.ControlAct s.release
  /-- A halt, with the findings of a round that ends in it. -/
  | halt {u : State} {st : Stage} (why : HaltReason) (hu : s.Found u) (hs : s.swc.station = .inStage st) (hst : st ≠ .report) :
      s.ControlAct (u.haltIn why st)
  /-- An accepted BEGIN. -/
  | start (f : BeginFields) (hs : s.swc.station = .listen ∨ s.swc.station = .done) : s.ControlAct (s.openSweep f).refreshLamps
  /-- A BEGIN in BARRED. -/
  | tag (f : BeginFields) (hs : s.swc.station = .barred) : s.ControlAct (s.barredBegin f)
  /-- A barrier taken into the next stage. -/
  | enter {st st' : Stage} (hs : s.swc.station = .inStage st) (hn : st.next = some st') (hw : s.lif.phase = .waiting)
      (hr : s.swc.released = true) : s.ControlAct ((s.mapLif Lif.startHoldOff).enterStage st')
  /-- The end of the sweep, from REPORT or with the last report of a halted station. -/
  | finish {f : Cfe} (hs : s.swc.station = .inStage .report ∨ ∃ st, s.swc.station = .halted st)
      (hq : s.LinesWf → s.QueueWf → QueueWf { s with cfe := f, swc := { s.swc with station := .done } }) :
      s.ControlAct ({ s with cfe := f } : State).enterDone

variable {s t : State}

/-- The station with the halt reason, flags and limit of w and the frame engine f. -/
theorem Found.lines_set {u : State} (hu : s.Found u) {w : Swc} {f : Cfe} (hs : w.station = s.swc.station)
    (hr : w.released = s.swc.released) (h : s.LinesWf) : LinesWf { u with swc := w, cfe := f } :=
  (hu.lines h).congr rfl (by rw [hu.swc]; exact hs) (by rw [hu.swc]; exact hr) rfl rfl

namespace ControlAct

theorem lines (ha : s.ControlAct t) (h : s.LinesWf) : t.LinesWf := by
  cases ha with
  | line hl _ => exact hl h
  | control hs _ hr _ _ => exact h.congr rfl hs hr rfl rfl
  | frame _ _ => exact h.congr rfl rfl rfl rfl rfl
  | peer _ => exact h.congr rfl rfl rfl rfl rfl
  | @reading p p' hp =>
    have hs : s.swc.station = .inStage .static := h.probe_static (by simp [hp])
    obtain ⟨h1, h2, h3, h4, h5, h6, h7, h8, h9, h10, h11, h12, h13⟩ := h
    constructor
    case probe_static => exact fun _ => hs
    all_goals assumption
  | attempt hu hs _ hr _ _ => exact (hu.lines_set hs hr h).tryRelease
  | release hp _ => exact h.release (by simp [hp])
  | halt why hu hs _ => exact (hu.lines h).haltIn (by rw [hu.swc]; exact hs) why
  | start f hs => exact (h.openSweep hs f).refreshLamps
  | tag f _ => exact h.congr rfl rfl rfl rfl rfl
  | enter hs hn hw _ => exact h.takeBarrier hs hn hw
  | finish hs _ =>
    refine LinesWf.enterDone (h.congr rfl rfl rfl rfl rfl) ?_ ?_ <;> rcases hs with hs | ⟨st, hs⟩ <;> simp [hs]

theorem holding (ha : s.ControlAct t) (hl : s.LinesWf) (h : s.HoldingWf) : t.HoldingWf := by
  cases ha with
  | line _ hh =>
    intro e
    rcases hh e with e | e
    · exact h e
    · exact e
  | control hs _ _ hx _ => exact h.congr id (releaseReady_of_items rfl hs hx rfl rfl fun _ => ⟨id, id, id, id⟩)
  | frame _ hh =>
    rcases hh with hq | hs
    · exact h.congr id (releaseReady_of_items rfl rfl rfl hq rfl fun _ => ⟨id, id, id, id⟩)
    · exact fun _ => releaseReady_outside hs
  | peer _ => exact h.congr id fun e => e
  | @reading p p' hp =>
    intro _
    by_contra e
    have hs : s.swc.station = .inStage .static := hl.probe_static (by simp [hp])
    have := (releaseReady_static (s := { s with spu := .probing p' }) hs).1 (by simpa using e)
    cases this
  | attempt hu hs _ hr _ _ => exact tryRelease_holding (hu.lines_set hs hr hl)
  | release _ _ => exact fun e => by cases e
  | halt why _ _ _ => exact haltIn_holding why _ _
  | start f _ => exact openSweep_holding f s
  | tag f hs =>
    have hout : (s.barredBegin f).swc.station.inSomeStage = false := congrArg StationState.inSomeStage hs
    exact fun _ => releaseReady_outside hout
  | enter _ _ _ _ => exact enterStage_holding _ s
  | finish _ _ => exact fun e => by cases e

theorem transmitters (ha : s.ControlAct t) (hl : s.LinesWf) (h : s.TransmittersWf) : t.TransmittersWf := by
  cases ha with
  | line _ _ | frame _ _ | peer _ | reading _ => exact h.congr rfl rfl rfl (fun _ => rfl) fun _ => .refl _
  | control hs hp _ _ _ => exact h.congr rfl hs (congrArg _ hp) (fun _ => rfl) fun _ => .refl _
  | @attempt u w f hu hs hp _ _ _ =>
    have hset : TransmittersWf { u with swc := w, cfe := f } :=
      (hu.transmitters hl h).congr rfl (by rw [hu.swc]; exact hs) (by rw [hu.swc]; exact congrArg _ hp) (fun _ => rfl) fun _ => .refl _
    exact tryRelease_of hset fun _ => hset.release
  | release _ _ => exact h.release
  | halt why hu _ _ => exact (hu.transmitters hl h).haltIn why _
  | start f _ => exact .of_initial (openSweep_chan f s) rfl
  | tag f _ => exact h.congr rfl rfl rfl (fun _ => rfl) fun _ => .refl _
  | enter hs hn _ _ =>
    exact TransmittersWf.enterStage (s := s.mapLif Lif.startHoldOff) (h.congr rfl rfl rfl (fun _ => rfl) fun _ => .refl _) hs hn
  | finish hs _ =>
    have hrest : s.swc.station.lanesRun = false := by rcases hs with hs | ⟨st, hs⟩ <;> rw [hs] <;> rfl
    exact .of_off rfl fun c => h.off hrest c

theorem counts (ha : s.ControlAct t) (h : s.CountsWf) : t.CountsWf := by
  cases ha with
  | line _ _ | frame _ _ | peer _ | reading _ => exact h.of_kept rfl rfl fun _ => .refl _ _
  | control hs hp _ _ _ => exact h.of_kept hs hp fun _ => .refl _ _
  | @attempt u w f hu hs hp _ _ _ =>
    have hset : CountsWf { u with swc := w, cfe := f } :=
      (hu.counts h).of_kept (by rw [hu.swc]; exact hs) (by rw [hu.swc]; exact hp) fun _ => .refl _ _
    exact tryRelease_of hset fun _ => hset.release
  | release _ _ => exact h.release
  | halt why hu _ _ => exact (hu.counts h).haltIn why _
  | start f _ => exact .of_initial (openSweep_chan f s)
  | tag f _ => exact h.restation ⟨rfl, rfl⟩ (fun _ => ⟨rfl, rfl⟩) fun st e => ⟨st, e, le_rfl⟩
  | enter hs hn _ _ =>
    exact CountsWf.enterStage (s := s.mapLif Lif.startHoldOff) (h.of_kept rfl rfl fun _ => .refl _ _) hs hn
  | finish _ _ => exact h.restation ⟨rfl, rfl⟩ (fun _ => ⟨rfl, rfl⟩) fun st e => by cases e

theorem idents (ha : s.ControlAct t) (h : s.IdentsWf) : t.IdentsWf := by
  cases ha with
  | line _ _ | frame _ _ | peer _ | reading _ => exact h.of_kept rfl fun _ => .refl _
  | control hs _ _ _ _ => exact h.of_kept hs fun _ => .refl _
  | @attempt u w f hu hs _ _ _ _ =>
    have hset : IdentsWf { u with swc := w, cfe := f } := (hu.idents h).of_kept (by rw [hu.swc]; exact hs) fun _ => .refl _
    exact tryRelease_of hset fun _ => hset.release
  | release _ _ => exact h.release
  | halt why hu _ _ => exact (hu.idents h).haltIn why _
  | start f _ => exact .of_initial (openSweep_chan f s)
  | tag f _ => exact h.of_kept rfl fun _ => .refl _
  | enter hs hn _ _ => exact IdentsWf.enterStage (s := s.mapLif Lif.startHoldOff) (h.of_kept rfl fun _ => .refl _) hs hn
  | finish _ _ => exact h.restation (fun _ => rfl) fun st e => by cases e

theorem peers (ha : s.ControlAct t) (hl : s.LinesWf) (h : s.PeersWf) : t.PeersWf := by
  cases ha with
  | line _ _ | frame _ _ | control _ _ _ _ _ | reading _ => exact h.congr rfl rfl
  | peer hp => exact hp h
  | attempt hu _ _ _ _ _ => exact h.congr (by simpa using hu.identity) (by simpa using hu.peers)
  | release _ _ => exact h.release
  | halt why hu _ _ => exact h.congr (by simpa using hu.identity) (by simpa using hu.peers)
  | start f hs =>
    refine openSweep_peers fun e => ?_
    rw [hl.identity_iff] at e
    rcases hs with hs | hs <;> rw [hs] at e <;> cases e
  | tag f _ => exact h.congr rfl rfl
  | enter _ _ _ _ => exact h.congr (by simp) (by simp)
  | finish _ _ => exact h.congr rfl rfl

theorem settled (ha : s.ControlAct t) (h : s.SettledWf) : t.SettledWf := by
  cases ha with
  | line _ _ | frame _ _ | peer _ | reading _ => exact h.congr rfl rfl rfl rfl
  | control hs _ hr _ _ => exact h.congr rfl hs hr rfl
  | @attempt u w f hu hs _ hr _ _ =>
    have hset : SettledWf { u with swc := w, cfe := f } :=
      (hu.settled h).congr rfl (by rw [hu.swc]; exact hs) (by rw [hu.swc]; exact hr) rfl
    exact tryRelease_of hset hset.release
  | release _ hr => exact h.release hr
  | halt why _ _ _ => exact haltIn_settled why _ _
  | start f _ => exact openSweep_settled f s
  | tag f _ => exact h.congr rfl rfl rfl rfl
  | enter hs hn _ hr => exact SettledWf.enterStage (s := s.mapLif Lif.startHoldOff) (h.congr rfl rfl rfl rfl) hs hn hr
  | finish hs _ =>
    refine h.of_settled rfl (fun st hst _ => ?_) fun c _ => ⟨id, id, id, id⟩
    rcases hs with hs | ⟨st', hs⟩
    · exact (itemsDone_iff hs).2 (.inl hst)
    · simp [itemsDone, hs]

theorem queue (ha : s.ControlAct t) (hl : s.LinesWf) (h : s.QueueWf) : t.QueueWf := by
  cases ha with
  | line _ _ | peer _ | reading _ => exact h.congr rfl rfl rfl rfl
  | control hs _ hr _ _ => exact h.congr rfl hs hr rfl
  | frame hq _ => exact hq hl h
  | @attempt u w f hu hs _ hr _ hq =>
    have hset : QueueWf { u with swc := w, cfe := f } := (hq hl h).congr hu.identity hs hr rfl
    exact tryRelease_of hset hset.release
  | release _ hr => exact h.release hr
  | halt why hu hs hst =>
    have hset := h.congr hu.identity (by rw [hu.swc]) (by rw [hu.swc]) hu.cfe
    exact hset.haltIn (by rw [hu.swc]; exact hs) hst why
  | start f _ => exact openSweep_queue f s
  | tag f hs =>
    have hq := h.extend (.inl hs) (enqueue_prefix s.cfe.queue .slotrep) (enqueue_nodup h.once _)
      fun e he => (mem_enqueue he).imp_right .inl
    exact hq.congr rfl rfl rfl rfl
  | enter hs hn _ hr => exact QueueWf.enterStage (s := s.mapLif Lif.startHoldOff) (h.congr rfl rfl rfl rfl) hs hn hr
  | finish _ hq => exact (hq hl h).congr rfl rfl rfl rfl

theorem lamps (ha : s.ControlAct t) (hl : s.LinesWf) (h : s.LampsWf) : t.LampsWf := by
  have hsame : ∀ u : State, u.identity = s.identity → u.swc = s.swc → u.channels = s.channels → u.LampsWf := fun u hi hw hc =>
    h.of_patterns (by rw [hw]) (by rw [hw])
      (lampPatterns_congr (by rw [hw]) (by rw [hw]) fun _ => slotVerdict_congr hi hc (by rw [hw]) (by rw [hw]) (by rw [hw]))
  cases ha with
  | line _ _ | frame _ _ | peer _ | reading _ => exact hsame _ rfl rfl rfl
  | control _ _ _ _ hw => exact hw h
  | @attempt u w f hu _ _ _ hw _ =>
    have hset : LampsWf { u with swc := w, cfe := f } := hw (hu.lamps hl h)
    exact tryRelease_of hset fun _ => hset.release
  | release _ _ => exact h.release
  | halt why hu hs _ => exact (hu.lamps hl h).haltIn (by rw [hu.swc]; exact hs) why
  | start f _ => exact refreshLamps_lampsWf _
  | tag f hs =>
    exact h.of_patterns rfl rfl (lampPatterns_congr rfl rfl fun e => by rw [hs] at e; cases e)
  | enter hs _ _ _ => exact LampsWf.enterStage (s := s.mapLif Lif.startHoldOff) (hsame _ rfl rfl rfl) _ hs
  | finish _ _ => exact refreshLamps_lampsWf _

end ControlAct
end State
end Sys2Proof.Machine
end

section
/-! SUPPORT. State.ControlRun: every command outside the lanes is a run of control events. -/
namespace Sys2Proof.Machine
namespace State

/-- The control events of one command, in order. -/
abbrev ControlRun (s t : State) : Prop := Relation.ReflTransGen ControlAct s t

variable {s t : State}

/-- What every control event keeps, a command outside the lanes keeps. -/
theorem ControlRun.keeps {P : State → Prop} (hr : s.ControlRun t) (hP : ∀ {u v : State}, u.ControlAct v → P u → P v) (h : P s) :
    P t := by
  induction hr with
  | refl => exact h
  | tail _ ha ih => exact hP ha ih

/-- The same for what every control event keeps of a station whose lines are well formed. -/
theorem ControlRun.keeps_with_lines {P : State → Prop} (hr : s.ControlRun t)
    (hP : ∀ {u v : State}, u.ControlAct v → u.LinesWf → P u → P v) (hl : s.LinesWf) (h : P s) : P t :=
  (hr.keeps (P := fun u => u.LinesWf ∧ P u) (fun ha hu => ⟨ha.lines hu.1, hP ha hu.1 hu.2⟩) ⟨hl, h⟩).2

theorem ControlAct.run (h : s.ControlAct t) : s.ControlRun t := .single h

/-! ### The stop causes -/

/-- The lamps of a station that is not in DONE do not read its flags. -/
theorem setFlags_act (hs : s.swc.station ≠ .done) (f : StationFlags → StationFlags) : s.ControlAct (s.setFlags f) :=
  .control (w := (s.setFlags f).swc) rfl rfl rfl rfl fun h =>
    h.of_patterns rfl rfl (lampPatterns_congr rfl rfl fun e => absurd e hs)

theorem setFlags_refreshLamps_act (f : StationFlags → StationFlags) (s : State) : s.ControlAct (s.setFlags f).refreshLamps :=
  .control (s := s) (w := (s.setFlags f).refreshLamps.swc) rfl rfl rfl rfl fun _ => refreshLamps_lampsWf _

/-- R44. -/
theorem pullStop_act (hs : s.LinesWf → s.swc.station.inSomeStage = true ∨ ∃ st, s.swc.station = .halted st) :
    s.ControlAct (s.mapLif Lif.pullStop) :=
  .line (l := s.lif.pullStop) (fun h => h.pullStop (hs h)) fun e => .inl e

/-- R29. -/
theorem halt_run (why : HaltReason) (s : State) : s.ControlRun (s.halt why) := by
  rcases s.halt_cases why with ⟨st, hst, hs, e⟩ | ⟨e, -⟩ <;> rw [e]
  exact (ControlAct.halt why (.inl rfl) hs hst).run

theorem haltIfStopAll_run (why : HaltReason) (s : State) : s.ControlRun (s.haltIfStopAll why) := by
  rcases s.haltIfStopAll_cases why with ⟨-, e⟩ | ⟨-, e⟩ <;> rw [e]
  exact s.halt_run why

/-- R46. -/
theorem takeStopSeen_run (hs : s.swc.station ≠ .done) : s.ControlRun s.takeStopSeen :=
  .head (setFlags_act hs _) (haltIfStopAll_run _ _)

/-- R29, R30, R44, R50, R57, R173. -/
theorem takeSlotConflict_run (s : State) : s.ControlRun s.takeSlotConflict := by
  unfold takeSlotConflict
  dsimp only
  split
  case h_1 hs | h_2 hs => exact (setFlags_act (by simp [hs]) _).run
  case h_3 =>
    exact (setFlags_refreshLamps_act _ s).run
  case h_4 hs =>
    exact .head (setFlags_act (by simp [hs]) _)
      (.head (pullStop_act fun _ => .inl (congrArg StationState.inSomeStage hs)) (haltIfStopAll_run _ _))
  case h_5 st hs => exact .head (setFlags_act (by simp [hs]) _) (pullStop_act (s := s.setFlags _) fun _ => .inr ⟨st, hs⟩).run
  case h_6 | h_7 => exact .refl

/-! ### Received frames -/

/-- R15, R49. -/
theorem setForeign_act (on : Bool) (s : State) : s.ControlAct (s.setForeign on) :=
  .control (w := (s.setForeign on).swc) rfl rfl rfl rfl fun _ => refreshLamps_lampsWf _

theorem noteTaggedFrame_run (s : State) : s.ControlRun s.noteTaggedFrame := by
  unfold noteTaggedFrame
  split
  · exact (setForeign_act true s).run
  · exact .refl

/-- The queue and the frame on the line stand, and the receiver follows an own frame. -/
theorem receiver_act {f : Cfe} (hq : f.queue = s.cfe.queue) (hl : f.onLine = s.cfe.onLine)
    (hr : f.onLine ≠ none → f.receiver = .frame ∨ f.receiver = s.cfe.receiver) : s.ControlAct { s with cfe := f } := by
  refine .frame (fun _ h => ?_) (.inl hq)
  obtain ⟨h1, h2, h3, h4, h5, h6, h7, h8, h9⟩ := h
  constructor
  case follows_own => exact fun e => (hr e).elim id fun e' => e'.trans (h9 (hl ▸ e))
  all_goals dsimp only; rw [hq]
  case present_when | on_line => rw [hl]; assumption
  all_goals assumption

theorem endFrame_act (s : State) : s.ControlAct (s.mapCfe Cfe.endFrame) := by
  refine receiver_act (f := s.cfe.endFrame) ?_ ?_ fun e => .inr ?_ <;> unfold Cfe.endFrame at *
  · split <;> rfl
  · split <;> rfl
  · split
    case isTrue => rfl
    case isFalse hn =>
      rw [if_neg hn] at e
      exact absurd (Option.isSome_iff_ne_none.2 e) hn

/-- R167, R168, R170: a received frame, taken only if it passes its checks. -/
theorem receive_run {ok : Bool} {take : State → State} (h : receive ok take s = .next t)
    (ht : ok = true → ControlRun (s.mapCfe Cfe.endFrame) (take (s.mapCfe Cfe.endFrame))) : s.ControlRun t := by
  unfold receive at h
  split at h
  case isFalse => cases h; exact .refl
  case isTrue =>
    split at h <;> cases h
    case isTrue hok => exact .head (endFrame_act s) (ht hok)
    case isFalse => exact (endFrame_act s).run

/-- R16 to R18. -/
theorem takeBegin_run (f : BeginFields) (s : State) : s.ControlRun (s.takeBegin f) := by
  have haccept : s.swc.station = .listen ∨ s.swc.station = .done → s.ControlRun (s.acceptBegin f) := fun hs => by
    unfold acceptBegin
    dsimp only
    split
    · exact .head (.start f hs) (takeStopSeen_run (by simp [openSweep]))
    · exact (ControlAct.start f hs).run
  unfold takeBegin
  split
  case h_1 hs => exact haccept (.inl hs)
  case h_2 hs => exact haccept (.inr hs)
  case h_3 hs => exact (ControlAct.tag f hs).run
  all_goals exact .refl

/-- R33. -/
theorem takeCease_run (tag : Byte) (s : State) : s.ControlRun (s.takeCease tag) := by
  unfold takeCease
  split
  case h_1 => exact noteTaggedFrame_run s
  case h_2 =>
    split
    · exact halt_run _ s
    · exact .refl
  all_goals exact .refl

/-- R55 to R58: a PRESENT from a slot from 1 to 16. -/
theorem takePresent_run {src : Byte} (hok : srcOk src = true) (f : PresentFields) (s : State) : s.ControlRun (s.takePresent src f) := by
  unfold takePresent
  split
  case h_1 => exact noteTaggedFrame_run s
  case h_3 => exact .refl
  case h_2 id hs hid =>
    split
    case isTrue => exact .refl
    case isFalse hn =>
      split
      case isTrue => exact takeSlotConflict_run s
      case isFalse hown =>
        have hle : src.toNat ≤ 16 := by simpa [srcOk] using hok
        refine (ControlAct.peer (ps := (s.takePresentFrom id src.toNat f).peers) fun h => ?_).run
        exact h.upsert ⟨by omega, hle⟩ (by simpa [ownSlot, hid] using hown) (by simp [hid]) _ _

/-- R163: what a RECALL picks are LANEREPs of wanted channels that are not queued, none twice. -/
theorem recallPick_sublist (q : List Entry) (limit : Option Nat) (cs : List Chan) :
    (recallPick q limit cs).Sublist ((cs.filter fun c => !(q.contains (.lanerep c))).map .lanerep) := by
  cases limit with
  | none => rw [recallPick_none]
  | some n =>
    rw [recallPick_some]
    exact (List.take_sublist _ _).map _

/-- R162, R163. -/
theorem takeRecall_run (f : RecallFields) (s : State) : s.ControlRun (s.takeRecall f) := by
  unfold takeRecall
  split
  case isFalse => exact .refl
  case isTrue hs =>
    refine (ControlAct.frame (f := (s.fillFromRecall f).cfe) (fun _ h => ?_) (.inr (by rw [hs.1]; rfl))).run
    have hsub := recallPick_sublist s.cfe.queue (recallLimit f.count) (s.inUseChans.filter (recallWants f))
    have hmem : ∀ e ∈ recallPick s.cfe.queue (recallLimit f.count) (s.inUseChans.filter (recallWants f)),
        e ∉ s.cfe.queue ∧ ∃ c, s.inUse c = true ∧ e = .lanerep c := fun e he => by
      obtain ⟨c, hc, rfl⟩ := List.mem_map.1 (hsub.subset he)
      simp only [List.mem_filter, mem_inUseChans, Bool.not_eq_true', List.contains_eq_mem, decide_eq_false_iff_not] at hc
      exact ⟨hc.2, c, hc.1.1, rfl⟩
    have hnodup : (s.cfe.queue ++ recallPick s.cfe.queue (recallLimit f.count) (s.inUseChans.filter (recallWants f))).Nodup := by
      refine List.nodup_append.2 ⟨h.once, hsub.nodup ?_, fun a ha b hb e => (hmem b hb).1 (e ▸ ha)⟩
      exact ((s.inUseChans_nodup.filter _).filter _).map fun a b e => by injection e
    have hnew : ∀ e ∈ s.cfe.queue ++ recallPick s.cfe.queue (recallLimit f.count) (s.inUseChans.filter (recallWants f)),
        e ∈ s.cfe.queue ∨ e = .slotrep ∨ ∃ c, s.inUse c = true ∧ e = .lanerep c := fun e he =>
      (List.mem_append.1 he).imp id fun he => .inr (hmem e he).2
    unfold fillFromRecall
    dsimp only [mapCfe]
    split
    · refine h.extend (.inr hs.1) ((List.prefix_append _ _).trans (enqueue_prefix _ _)) (enqueue_nodup hnodup _) fun e he => ?_
      rcases mem_enqueue he with he | he
      · exact hnew e he
      · exact .inr (.inl he)
    · exact h.extend (.inr hs.1) (List.prefix_append _ _) hnodup hnew

/-! ### Own frames -/

/-- R161, R172: the entry of the frame on the line leaves the queue with its frame. -/
theorem QueueWf.gone (h : s.QueueWf) {lf : LineFrame} (hl : s.cfe.onLine = some lf) {g : Cfe}
    (hq : g.queue = s.cfe.queue.erase lf.entry) (ho : g.onLine = none)
    (hrep : (∃ st, s.swc.station = .halted st) → g.queue ≠ []) : QueueWf { s with cfe := g } := by
  have hsub : ∀ e ∈ g.queue, e ∈ s.cfe.queue := fun e he => List.mem_of_mem_erase (hq ▸ he)
  have hno : Entry.present ∉ g.queue := fun he => by
    have hq1 := h.present_alone (hsub _ he)
    have hlf : lf.entry = .present := by
      have := h.on_line lf hl
      rw [hq1] at this
      simpa using this.symm
    rw [hq, hq1, hlf] at he
    simp at he
  exact {
    once := by dsimp only; rw [hq]; exact h.once.erase _
    in_use := fun c e => h.in_use c (hsub _ e)
    present_alone := fun e => absurd e hno
    muster_only := fun e => by
      left
      have hne := h.muster_only e
      refine List.eq_nil_iff_forall_not_mem.2 fun x hx => ?_
      rcases hne with e' | e'
      · have := hsub x hx; rw [e'] at this; cases this
      · have := hsub x hx
        rw [e', List.mem_singleton] at this
        exact hno (this ▸ hx)
    present_when := fun e => absurd e hno
    empty_when := fun e => List.eq_nil_iff_forall_not_mem.2 fun x hx => by
      have := hsub x hx
      rw [h.empty_when e] at this
      cases this
    reports_left := hrep
    on_line := fun lf e => by rw [show g.onLine = none from ho] at e; cases e
    follows_own := fun e => absurd ho e }

/-- R32: the entry of a halted station's PRESENT is alone in the queue. -/
theorem QueueWf.erase_present (h : s.QueueWf) {lf : LineFrame} (hl : s.cfe.onLine = some lf) (he : lf.entry = .present) :
    s.cfe.queue.erase lf.entry = [] := by
  have hhead := h.on_line lf hl
  rw [he] at hhead ⊢
  rw [h.present_alone (List.mem_of_mem_head? hhead)]
  rfl

/-- R22, R27, R32, R161: an own frame has ended and its entry has gone. -/
theorem afterRemoval_run {lf : LineFrame} (hl : s.cfe.onLine = some lf) {g : Cfe} (hq : g.queue = s.cfe.queue.erase lf.entry)
    (ho : g.onLine = none) : s.ControlRun (({ s with cfe := g } : State).afterRemoval lf.entry) := by
  refine ControlAct.run ?_
  have hplain : ((∃ st, s.swc.station = .halted st) → g.queue ≠ []) → s.swc.station.inSomeStage = false →
      s.ControlAct { s with cfe := g } := fun hrep hs => .frame (fun _ h => h.gone hl hq ho hrep) (.inr hs)
  unfold afterRemoval
  dsimp only
  split
  case h_1 st hs =>
    split
    case isTrue he =>
      refine .frame (f := (({ s with cfe := g } : State).queueReports).cfe) (fun _ h => ?_) (.inr (by rw [hs]; rfl))
      have hout := queueReports_outcome (s := { s with cfe := g }) (hq.trans (h.erase_present hl he))
      refine .of_reports ?_ ?_ (.inl ⟨st, hs⟩)
      · exact (congrArg (·.cfe.queue) hout).trans rfl
      · exact (congrArg (·.cfe.onLine) hout).trans ho
    case isFalse he =>
      split
      case isTrue hempty => exact .finish (.inr ⟨st, hs⟩) fun _ _ => .of_empty hempty ho fun x e => by cases e
      case isFalse hempty => exact hplain (fun _ => hempty) (by rw [hs]; rfl)
  case h_2 st hs =>
    exact .attempt (.inl rfl) rfl rfl rfl id fun _ h => h.gone hl hq ho fun ⟨x, e⟩ => by rw [hs] at e; cases e
  case h_3 hs | h_4 hs | h_5 hs | h_6 hs =>
    exact hplain (fun ⟨x, e⟩ => by rw [hs] at e; cases e) (by rw [hs]; rfl)

theorem execFrameComplete_run (h : execFrameComplete s = .next t) : s.ControlRun t := by
  unfold execFrameComplete at h
  split at h <;> cases h
  case h_1 => exact .refl
  case h_2 lf hl => exact afterRemoval_run hl rfl rfl

/-- R172: a lost frame is off the line, and its entry stays unless it is to go with it. -/
theorem loseFrame_run {lf : LineFrame} (hl : s.cfe.onLine = some lf) : s.ControlRun (s.loseFrame lf) := by
  unfold loseFrame
  dsimp only
  split
  case isTrue => exact afterRemoval_run hl rfl rfl
  case isFalse hd =>
    refine (ControlAct.frame (f := { s.cfe with onLine := none }) (fun _ h => ?_) (.inl rfl)).run
    exact {
      once := h.once
      in_use := h.in_use
      present_alone := h.present_alone
      muster_only := h.muster_only
      present_when := fun e => by
        obtain hm | ⟨lf', hm, e', hd'⟩ := h.present_when e
        · exact .inl hm
        · rw [hl] at e'
          cases e'
          exact absurd hd' hd
      empty_when := h.empty_when
      reports_left := h.reports_left
      on_line := fun lf' e => by cases e
      follows_own := fun e => absurd rfl e }

theorem execContentionLoss_run {bit : Nat} (h : execContentionLoss bit s = .next t) : s.ControlRun t := by
  unfold execContentionLoss at h
  split at h
  case h_1 => cases h; exact .refl
  case h_2 lf hl =>
    split at h
    case isFalse => cases h; exact .refl
    case isTrue =>
      split at h <;> cases h
      · exact (loseFrame_run hl).trans (takeSlotConflict_run _)
      · exact loseFrame_run hl

/-- R161, R171: the head's frame goes on the line. -/
theorem execFrameStart_run (h : execFrameStart s = .next t) : s.ControlRun t := by
  unfold execFrameStart at h
  split at h
  case h_1 => cases h; exact .refl
  case h_2 e es hq =>
    split at h <;> cases h
    case isFalse => exact .refl
    case isTrue hs =>
      refine (ControlAct.frame (f := { s.cfe with
        receiver := .frame, onLine := some { entry := e, bytes := buildFrame s e, dropOnLoss := false } })
          (fun _ h => ?_) (.inl rfl)).run
      exact {
        once := h.once
        in_use := h.in_use
        present_alone := h.present_alone
        muster_only := h.muster_only
        present_when := fun e' => by
          obtain hm | ⟨lf', hm, e'', -⟩ := h.present_when e'
          · exact .inl hm
          · rw [hs.2.2] at e''; cases e''
        empty_when := h.empty_when
        reports_left := h.reports_left
        on_line := fun lf' e' => by cases e'; dsimp only; rw [hq]; rfl
        follows_own := fun _ => rfl }

theorem execBusIdle_run (h : execBusIdle s = .next t) : s.ControlRun t := by
  unfold execBusIdle at h
  split at h <;> cases h
  case isFalse => exact .refl
  case isTrue hs =>
    refine (ControlAct.frame (f := { s.cfe with receiver := .idle }) (fun _ h => ?_) (.inl rfl)).run
    refine { h with follows_own := fun e => ?_ }
    have := h.follows_own e
    rw [hs.2] at this
    cases this

theorem execStartBit_run (h : execStartBit s = .next t) : s.ControlRun t := by
  unfold execStartBit at h
  split at h <;> cases h
  case isFalse => exact .refl
  case isTrue => exact (receiver_act (f := { s.cfe with receiver := .frame }) rfl rfl fun _ => .inl rfl).run

/-- R167: the cause of a drop makes no difference. -/
theorem execFrameDrop_cause (d : DropCause) (s : State) : execFrameDrop d s = execFrameDrop .glitch s := by
  cases d <;> rfl

theorem execFrameDrop_run {d : DropCause} (h : execFrameDrop d s = .next t) : s.ControlRun t := by
  rw [execFrameDrop_cause] at h
  unfold execFrameDrop at h
  dsimp only at h
  split at h <;> cases h
  case isFalse => exact .refl
  case isTrue hs => exact (receiver_act (f := { s.cfe with receiver := .waitIdle }) rfl rfl fun e => absurd hs.2.2 e).run

end State
end Sys2Proof.Machine
end

section
/-! SUPPORT. The line, limit and probe commands, and State.exec_ran: every command is the start or the end of a reset, a lane run or a
control run. -/
namespace Sys2Proof.Machine
namespace State

variable {s t : State}

/-! ### The two lines -/

/-- R35, R36: an edge on CB_STOP that the station does not prevent. -/
theorem LinesWf.stopEdge (h : s.LinesWf) {level : Level}
    (he : ¬ (level = s.lif.stopLine ∨ level = .high ∧ s.lif.stopDrive = .pulled)) :
    (s.mapLif (Lif.stopEdge level)).LinesWf := by
  obtain ⟨h1, h2, h3, h4, h5, h6, h7, h8, h9, h10, h11, h12, h13⟩ := h
  constructor
  case stop_low =>
    intro e
    cases level with
    | low => rfl
    | high => exact absurd (.inr ⟨rfl, e⟩) he
  case stop_run =>
    refine Iff.trans ?_ h12
    simp only [mapLif_lif, Lif.stopEdge]
    split <;> simp_all
  all_goals assumption

/-- R36: a run is qualified once it is timed. -/
theorem LinesWf.qualifyStop (h : s.LinesWf) (ht : s.lif.stopRun = .timing) : (s.mapLif Lif.qualifyStop).LinesWf := by
  obtain ⟨h1, h2, h3, h4, h5, h6, h7, h8, h9, h10, h11, h12, h13⟩ := h
  constructor
  case stop_run => exact iff_of_false (by simp [Lif.qualifyStop]) fun e => by rw [h12.2 e] at ht; cases ht
  all_goals assumption

/-- R35, R38, R41, R49: an edge on CB_STEP that the station does not prevent. -/
theorem LinesWf.stepEdge (h : s.LinesWf) {level : Level}
    (he : ¬ (level = s.lif.stepLine ∨ level = .high ∧ s.lif.stepDrive = .pulled)) :
    (s.mapLif (Lif.stepEdge (s.swc.station == .reset) level)).LinesWf := by
  obtain ⟨h1, h2, h3, h4, h5, h6, h7, h8, h9, h10, h11, h12, h13⟩ := h
  cases level with
  | low =>
    constructor
    case step_low => exact fun _ => rfl
    case barrier_run => exact fun e => by cases e
    case idle_high => exact fun e => absurd rfl e
    all_goals assumption
  | high =>
    constructor
    case step_low => exact fun e => absurd (.inr ⟨rfl, e⟩) he
    case barrier_run => exact fun e => ⟨by simpa [Lif.stepEdge] using e, rfl⟩
    case idle_high => exact fun _ => rfl
    all_goals assumption

/-- R49: the idle-high timer has run out. -/
theorem LinesWf.idleElapsed (h : s.LinesWf) (hi : s.lif.idleHigh = .running) :
    (s.mapLif fun l => { l with idleHigh := .elapsed }).LinesWf := by
  obtain ⟨h1, h2, h3, h4, h5, h6, h7, h8, h9, h10, h11, h12, h13⟩ := h
  constructor
  case idle_high => exact fun _ => h11 (by simp [hi])
  all_goals assumption

/-- R37, R40: the pull at the end of a hold-off. -/
theorem LinesWf.pullStep (h : s.LinesWf) (hp : s.lif.phase = .holdOff) :
    (s.mapLif fun l => { l.pullStep with holdOff := .stopped }).LinesWf := by
  have hstage : s.swc.station.inSomeStage = true := by
    by_contra e
    have := h.phase_off.2 (by simpa using e)
    rw [hp] at this
    cases this
  have hrel : s.swc.released = false := by
    by_contra e
    have := (h.waiting_iff hstage).1 (by simpa using e)
    rw [hp] at this
    cases this
  have hlimit : s.lif.barrierLimit.isRunning ≠ true := fun e => by
    have := h.barrier_limit.1 e
    rw [hp] at this
    cases this
  obtain ⟨h1, h2, h3, h4, h5, h6, h7, h8, h9, h10, h11, h12, h13⟩ := h
  constructor
  case pulls_step => exact iff_of_true rfl rfl
  case phase_off => exact iff_of_false (by simp [Lif.pullStep]) (by simp [hstage])
  case waiting_iff => exact fun _ => iff_of_false (by simp [hrel]) (by simp [Lif.pullStep])
  case step_low => exact fun _ => rfl
  case barrier_run => exact fun e => by cases e
  case barrier_limit => exact iff_of_false hlimit (by simp [Lif.pullStep])
  case hold_off => exact iff_of_false (by simp [Timer.isRunning]) (by simp [Lif.pullStep])
  case idle_high => exact fun e => absurd rfl e
  all_goals assumption

theorem execCbStopEdge_run {level : Level} (h : execCbStopEdge level s = .next t) : s.ControlRun t := by
  unfold execCbStopEdge at h
  split at h <;> cases h
  case isTrue => exact .refl
  case isFalse he => exact (ControlAct.line (l := s.lif.stopEdge level) (fun h => h.stopEdge he) .inl).run

theorem execCbStepEdge_run {level : Level} (h : execCbStepEdge level s = .next t) : s.ControlRun t := by
  unfold execCbStepEdge at h
  split at h <;> cases h
  case isTrue => exact .refl
  case isFalse he =>
    refine (ControlAct.line (l := s.lif.stepEdge (s.swc.station == .reset) level) (fun h => h.stepEdge he) fun e => .inl ?_).run
    cases level <;> exact e

theorem qualifyStop_act (ht : s.lif.stopRun = .timing) : s.ControlAct (s.mapLif Lif.qualifyStop) :=
  .line (l := s.lif.qualifyStop) (fun h => h.qualifyStop ht) .inl

theorem takeQualifiedLow_run (s : State) : s.ControlRun s.takeQualifiedLow := by
  unfold takeQualifiedLow
  split
  case h_7 hs =>
    split
    · exact takeStopSeen_run (by simp [hs])
    · exact .refl
  all_goals exact .refl

theorem execStopQualifiedLow_run (h : execStopQualifiedLow s = .next t) : s.ControlRun t := by
  unfold execStopQualifiedLow at h
  split at h <;> cases h
  case isTrue ht => exact .head (qualifyStop_act ht.1) (takeQualifiedLow_run _)
  case isFalse => exact .refl

theorem execStopQualifiedHigh_run (h : execStopQualifiedHigh s = .next t) : s.ControlRun t := by
  unfold execStopQualifiedHigh at h
  split at h <;> cases h
  case isTrue ht => exact (qualifyStop_act ht.1).run
  case isFalse => exact .refl

theorem execIdleSecond_run (h : execIdleSecond s = .next t) : s.ControlRun t := by
  unfold execIdleSecond at h
  split at h
  case isFalse => cases h; exact .refl
  case isTrue hi =>
    have hact : s.ControlAct (s.mapLif fun l => { l with idleHigh := .elapsed }) :=
      .line (l := { s.lif with idleHigh := .elapsed }) (fun h => h.idleElapsed hi) .inl
    dsimp only at h
    split at h <;> cases h
    · exact .head hact (setForeign_act false _).run
    · exact hact.run

theorem execHoldOffExpiry_run (h : execHoldOffExpiry s = .next t) : s.ControlRun t := by
  unfold execHoldOffExpiry at h
  split at h
  case isFalse => cases h; exact .refl
  case isTrue hp =>
    split at h <;> cases h
    case isTrue hr => exact (ControlAct.release hp.1 hr).run
    case isFalse hr =>
      exact (ControlAct.line (l := { s.lif.pullStep with holdOff := .stopped }) (fun h => h.pullStep hp.1)
        fun _ => .inr (by simpa using hr)).run

/-- R27, R34, R39: the queue of a released REPORT is empty, so DONE is entered with nothing to send. -/
theorem enterDone_act (hs : s.swc.station = .inStage .report) (hr : s.swc.released = true) : s.ControlAct s.enterDone :=
  .finish (f := s.cfe) (.inl hs) fun _ h => by
    have hq : s.cfe.queue = [] := h.empty_when (.inr (.inr ⟨.report, hs, .inl hr⟩))
    exact .of_empty hq (h.no_line hq) fun x e => by cases e

theorem execBarrierTaken_run (h : execBarrierTaken s = .next t) : s.ControlRun t := by
  unfold execBarrierTaken at h
  split at h
  case isFalse => cases h; exact .refl
  case isTrue hw =>
    split at h
    case h_1 st hs =>
      split at h <;> cases h
      case h_1 st' hn => exact (ControlAct.enter hs hn hw.1 hw.2.2).run
      case h_2 hn => exact (enterDone_act (by rw [hs, Stage.next_eq_none hn]) hw.2.2).run
    all_goals cases h; exact .refl

theorem execBarrierLimitExpiry_run (h : execBarrierLimitExpiry s = .next t) : s.ControlRun t := by
  unfold execBarrierLimitExpiry at h
  split at h
  case isFalse => cases h; exact .refl
  case isTrue hw =>
    split at h <;> cases h
    case h_1 hs => exact .head (setFlags_act (by simp [hs]) _) (enterDone_act (s := s.setFlags _) hs hw.2.2).run
    case h_2 hs =>
      exact .head (setFlags_act (by simp [hs]) _)
        (.head (pullStop_act (s := s.setFlags _) fun _ => .inl (congrArg StationState.inSomeStage hs)) (halt_run _ _))
    all_goals exact .refl

/-! ### Limits and the lamps -/

theorem execLampBlinkToggle_run (h : execLampBlinkToggle s = .next t) : s.ControlRun t := by
  cases h
  have htoggle : ∀ l : Lamp, l.toggle.pattern = l.pattern := fun l => by cases l <;> rfl
  exact (ControlAct.control (w := { s.swc with lampOk := s.swc.lampOk.toggle, lampFlt := s.swc.lampFlt.toggle }) rfl rfl rfl rfl
    fun hl => hl.of_patterns (htoggle _) (htoggle _)
      (lampPatterns_congr rfl rfl fun _ => slotVerdict_congr rfl rfl rfl rfl rfl)).run

/-- R161: at the limit of REPORT only the entry on the line stays, and it goes when its frame ends. -/
theorem QueueWf.keepOnlyLine (h : s.QueueWf) (hs : s.swc.station = .inStage .report) :
    QueueWf { s with cfe := s.cfe.keepOnlyLine } := by
  cases hl : s.cfe.onLine with
  | none =>
    rw [keepOnlyLine_none hl]
    exact .of_empty rfl hl fun x e => by rw [hs] at e; cases e
  | some lf =>
    have hmem : lf.entry ∈ s.cfe.queue := List.mem_of_mem_head? (h.on_line lf hl)
    have hno : lf.entry ≠ .present := fun e => by
      obtain ⟨hm, -⟩ | ⟨_, hm, -⟩ := h.present_when (e ▸ hmem) <;> rw [hs] at hm <;> cases hm
    have hpresent : Entry.present ∉ [lf.entry] := fun e => hno (List.mem_singleton.1 e).symm
    rw [keepOnlyLine_some hl]
    exact {
      once := List.nodup_singleton _
      in_use := fun c e => h.in_use c (by rw [List.mem_singleton.1 e]; exact hmem)
      present_alone := fun e => absurd e hpresent
      muster_only := fun e => by rw [hs] at e; cases e
      present_when := fun e => absurd e hpresent
      empty_when := fun e => by rw [h.empty_when e] at hmem; cases hmem
      reports_left := by rintro ⟨st, e⟩; rw [hs] at e; cases e
      on_line := fun lf' e => by cases e; rfl
      follows_own := fun _ => h.follows_own (by simp [hl]) }

/-- A release attempt after a change of the limit and of the frame engine. -/
theorem attempt_act {w : Swc} {f : Cfe} (hw : s.swc.SameSweep w) (hf : w.flags = s.swc.flags)
    (hq : s.LinesWf → s.QueueWf → QueueWf { s with cfe := f }) : s.ControlAct ({ s with swc := w, cfe := f } : State).tryRelease :=
  .attempt (.inl rfl) hw.station hw.params hw.released (fun h => h.of_patterns (by rw [hw.lampOk]) (by rw [hw.lampFlt])
    (lampPatterns_congr hw.station hw.foreignSweep fun _ => slotVerdict_congr rfl rfl hw.params hf hw.haltReason)) hq

/-- R21, R22, R27: the limit settles lane items in IDENTIFY, SOAK and STRESS, and looks at the release elsewhere. -/
theorem execStageLimitExpiry_run (h : execStageLimitExpiry s = .next t) : s.LaneRun t ∨ s.ControlRun t := by
  have hmark : s.swc.SameSweep s.markLimit.swc := ⟨rfl, rfl, rfl, rfl, rfl, rfl, rfl⟩
  unfold execStageLimitExpiry at h
  split at h
  case isFalse => cases h; exact .inr .refl
  case isTrue =>
    split at h <;> cases h
    case h_1 => exact .inr (attempt_act (f := s.cfe) hmark rfl fun _ h => h).run
    case h_2 hs => exact .inr (attempt_act (f := s.cfe.keepOnlyLine) hmark rfl fun _ h => h.keepOnlyLine hs).run
    case h_4 hs => exact .inl (.one (.expire hs))
    all_goals exact .inr .refl

/-- R22: at twice the MUSTER limit the PRESENT goes unsent, or with its frame. -/
theorem execMusterDoubleLimit_run (h : execMusterDoubleLimit s = .next t) : s.ControlRun t := by
  unfold execMusterDoubleLimit at h
  split at h
  case isFalse => cases h; exact .refl
  case isTrue hm =>
    obtain ⟨hs, -, -, hp⟩ := hm
    split at h <;> cases h
    case h_1 lf hl =>
      refine (ControlAct.frame (f := { s.cfe with onLine := some { lf with dropOnLoss := true } }) (fun _ h => ?_) (.inl rfl)).run
      exact {
        once := h.once
        in_use := h.in_use
        present_alone := h.present_alone
        muster_only := h.muster_only
        present_when := fun e => by
          obtain hm | ⟨_, e', -⟩ := h.present_when e
          · exact .inl hm
          · rw [hs] at e'; cases e'
        empty_when := h.empty_when
        reports_left := h.reports_left
        on_line := fun lf' e => by cases e; exact h.on_line lf hl
        follows_own := fun _ => h.follows_own (by simp [hl]) }
    case h_2 hl =>
      refine (attempt_act (w := s.swc) (f := s.cfe.removeEntry .present) (.refl _) rfl fun _ h => ?_).run
      refine .of_empty ?_ hl fun x e => by rw [hs] at e; cases e
      simp [Cfe.removeEntry, h.present_alone hp]

/-! ### The probe -/

theorem execProbeReferenceReading_run {v : Vector MicroVolts 32} (h : execProbeReferenceReading v s = .next t) : s.ControlRun t := by
  unfold execProbeReferenceReading at h
  split at h
  case h_1 p hp =>
    split at h <;> cases h
    · exact (ControlAct.reading hp).run
    · exact .refl
  all_goals cases h; exact .refl

theorem execProbeSample_run {v : Vector MicroVolts 32} (h : execProbeSample v s = .next t) : s.ControlRun t := by
  unfold execProbeSample at h
  split at h
  case h_1 p hp =>
    split at h <;> cases h
    · exact (ControlAct.reading hp).run
    · exact .refl
  all_goals cases h; exact .refl

theorem execProbeCurrentOn_run (h : execProbeCurrentOn s = .next t) : s.ControlRun t := by
  unfold execProbeCurrentOn at h
  split at h <;> cases h
  case h_1 p hp => exact (ControlAct.reading hp).run
  all_goals exact .refl

theorem execProbeCurrentOff_run (h : execProbeCurrentOff s = .next t) : s.ControlRun t := by
  unfold execProbeCurrentOff at h
  split at h <;> cases h
  case h_1 p hp => exact (ControlAct.reading hp).run
  all_goals exact .refl

/-- The findings of a round do not read the lines. -/
theorem roundFound_mapLif (p : ProbeRound) (f : Lif → Lif) (s : State) : (s.mapLif f).roundFound p = (s.roundFound p).mapLif f := by
  refine ext_fields rfl rfl rfl rfl (Vector.ext fun i hi => ?_) rfl rfl rfl rfl
  have hc : ((s.mapLif f).roundFound p).chan ⟨i, hi⟩ = (s.roundFound p).chan ⟨i, hi⟩ := by
    unfold roundFound
    rw [setSpu_chan, setSpu_chan, writeFindings_chan, writeFindings_chan]
    rfl
  exact hc

/-- R29, R72, R74: the SHORT_HIGH cause of a round that has found one. -/
theorem roundShortHigh_run {p : ProbeRound} (hp : s.spu = .probing p) : s.ControlRun (s.roundFound p).takeShortHigh.tryRelease := by
  have hpull : s.ControlAct (s.mapLif Lif.pullStop) :=
    pullStop_act fun hl => .inl (congrArg StationState.inSomeStage (hl.probe_static (by simp [hp])))
  have hfound : Found (s.mapLif Lif.pullStop) ((s.mapLif Lif.pullStop).roundFound p) := .inr ⟨p, _, hp, rfl⟩
  refine .head hpull (ControlAct.run ?_)
  unfold takeShortHigh
  rw [← roundFound_mapLif]
  have hattempt : ControlAct (s.mapLif Lif.pullStop) ((s.mapLif Lif.pullStop).roundFound p).tryRelease :=
    .attempt (w := s.swc) (f := s.cfe) hfound rfl rfl rfl id fun _ h => h
  rcases ((s.mapLif Lif.pullStop).roundFound p).haltIfStopAll_cases .shortHigh with ⟨-, e⟩ | ⟨-, e⟩ <;> rw [e]
  · rcases ((s.mapLif Lif.pullStop).roundFound p).halt_cases .shortHigh with ⟨st, hst, hs, e⟩ | ⟨e, -⟩ <;> rw [e]
    · rw [(haltIn_outcome _ st _).tryRelease]
      exact .halt _ hfound hs hst
    · exact hattempt
  · exact hattempt

theorem execRoundEnd_run (h : execRoundEnd s = .next t) : s.ControlRun t := by
  unfold execRoundEnd at h
  split at h
  case h_1 p hp =>
    split at h
    case isFalse => cases h; exact .refl
    case isTrue =>
      dsimp only at h
      split at h <;> cases h
      · exact roundShortHigh_run hp
      · exact (ControlAct.attempt (u := s.roundFound p) (w := s.swc) (f := s.cfe) (.inr ⟨p, _, hp, rfl⟩) rfl rfl rfl id
          fun _ h => h).run
  all_goals cases h; exact .refl

/-! ### Every command -/

/-- What one command makes of the station: the start or the end of a reset, a run of the lanes, or a run of the control events. -/
inductive Ran (s : State) : State → Prop
  | resetBegin : s.Ran s.resetBegun
  | resetEnd (st : Straps) (hs : s.swc.station = .reset) : s.Ran (s.resetEnded st)
  | lane {t : State} (h : s.LaneRun t) : s.Ran t
  | control {t : State} (h : s.ControlRun t) : s.Ran t

theorem exec_ran {c : Instr} (h : exec c s = .next t) : s.Ran t := by
  cases c with
  | resetBegin => cases h; exact .resetBegin
  | resetEnd st =>
    by_cases hs : s.swc.station = .reset
    · rw [exec_resetEnd hs] at h
      cases h
      exact .resetEnd st hs
    · rw [exec_resetEnd_outside hs] at h
      cases h
      exact .control .refl
  | beginFrame src f => exact .control (receive_run h fun _ => takeBegin_run f _)
  | ceaseFrame src tag => exact .control (receive_run h fun _ => takeCease_run tag _)
  | presentFrame src f => exact .control (receive_run h fun hok => takePresent_run hok f _)
  | recallFrame src f => exact .control (receive_run h fun _ => takeRecall_run f _)
  | lanerepReceived src p => exact .control (receive_run h fun _ => noteTaggedFrame_run _)
  | slotrepReceived src p => exact .control (receive_run h fun _ => noteTaggedFrame_run _)
  | busIdle => exact .control (execBusIdle_run h)
  | startBit => exact .control (execStartBit_run h)
  | frameDrop d => exact .control (execFrameDrop_run h)
  | frameStart => exact .control (execFrameStart_run h)
  | frameComplete => exact .control (execFrameComplete_run h)
  | contentionLoss bit => exact .control (execContentionLoss_run h)
  | cbStopEdge l => exact .control (execCbStopEdge_run h)
  | stopQualifiedLow => exact .control (execStopQualifiedLow_run h)
  | stopQualifiedHigh => exact .control (execStopQualifiedHigh_run h)
  | cbStepEdge l => exact .control (execCbStepEdge_run h)
  | barrierTaken => exact .control (execBarrierTaken_run h)
  | holdOffExpiry => exact .control (execHoldOffExpiry_run h)
  | barrierLimitExpiry => exact .control (execBarrierLimitExpiry_run h)
  | idleSecond => exact .control (execIdleSecond_run h)
  | stageLimitExpiry => exact (execStageLimitExpiry_run h).elim .lane .control
  | musterDoubleLimit => exact .control (execMusterDoubleLimit_run h)
  | probeReferenceReading v => exact .control (execProbeReferenceReading_run h)
  | probeSample v => exact .control (execProbeSample_run h)
  | probeCurrentOn => exact .control (execProbeCurrentOn_run h)
  | probeCurrentOff => exact .control (execProbeCurrentOff_run h)
  | roundEnd => exact .control (execRoundEnd_run h)
  | tokenPeriodStart d => exact .lane (execTokenPeriodStart_lane h)
  | clockAcquired d => exact .lane (execClockAcquired_lane h)
  | acquisitionTimeout d => exact .lane (execAcquisitionTimeout_lane h)
  | searchSuccess d f1 f2 seed next => exact .lane (execSearchSuccess_lane h)
  | searchTimeout d => exact .lane (execSearchTimeout_lane h)
  | tokenBlockEnd d m w => exact .lane (execTokenBlockEnd_lane h)
  | clockLoss d => exact .lane (execClockLoss_lane h)
  | retrainTimerExpiry d => exact .lane (execRetrainTimerExpiry_lane h)
  | settleDelayExpiry => exact .lane (execSettleDelayExpiry_lane h)
  | comparedBit d received monitor => exact .lane (execComparedBit_lane h)
  | pointEnd b => exact .lane (execPointEnd_lane (b := b) h)
  | lampBlinkToggle => exact .control (execLampBlinkToggle_run h)

end State
end Sys2Proof.Machine
end

section
/-! SUPPORT. The two ends of a reset, and the invariants that every command keeps. Settles O53, O54, O56, O59 and O60. -/
namespace Sys2Proof.Machine
namespace State

variable {s t : State}

/-! ### The start of a reset (R13, R51, R77, R134, R159, R172) -/

theorem resetBegun_chan (s : State) (c : Chan) : s.resetBegun.chan c = Channel.initial := by
  simp [chan, resetBegun, inReset]

theorem resetBegun_lines (s : State) : s.resetBegun.LinesWf where
  identity_iff := iff_of_true rfl rfl
  pulls_step := iff_of_false (fun e => by cases e) fun e => by cases e
  phase_off := iff_of_true rfl rfl
  waiting_iff := fun e => by cases e
  step_low := fun e => by cases e
  stop_low := fun e => by cases e
  pulls_stop := fun e => by cases e
  barrier_run := fun e => by cases e
  barrier_limit := iff_of_false (fun e => by cases e) fun e => by cases e
  hold_off := iff_of_false (fun e => by cases e) fun e => by cases e
  idle_high := fun e => absurd rfl e
  stop_run := iff_of_true rfl rfl
  probe_static := fun e => absurd rfl e

theorem resetBegun_holding (s : State) : s.resetBegun.HoldingWf := fun e => by cases e

theorem resetBegun_transmitters (s : State) : s.resetBegun.TransmittersWf := .of_initial s.resetBegun_chan rfl

theorem resetBegun_counts (s : State) : s.resetBegun.CountsWf := .of_initial s.resetBegun_chan

theorem resetBegun_idents (s : State) : s.resetBegun.IdentsWf := .of_initial s.resetBegun_chan

theorem resetBegun_peers (s : State) : s.resetBegun.PeersWf where
  ascending := .nil
  range := fun _ e => by cases e
  not_own := fun _ e => by cases e
  expected := fun _ e => by cases e
  in_reset := fun _ => rfl

theorem resetBegun_queue (s : State) : s.resetBegun.QueueWf := .of_empty rfl rfl fun _ e => by cases e

theorem resetBegun_settled (s : State) : s.resetBegun.SettledWf := .of_none fun _ => rfl

theorem resetBegun_lamps (s : State) : s.resetBegun.LampsWf := ⟨rfl, rfl⟩

/-! ### The end of a reset (R1, R3, R14, R36, R49) -/

/-- A reset ends in LISTEN or BARRED. -/
theorem resetEnded_cases (st : Straps) (s : State) :
    (s.resetEnded st).swc.station = .listen ∨ (s.resetEnded st).swc.station = .barred := by
  rw [resetEnded_station]
  split
  · exact .inr rfl
  · exact .inl rfl

theorem resetEnded_no_stage (st : Straps) (s : State) : (s.resetEnded st).swc.station.inSomeStage = false := by
  rcases s.resetEnded_cases st with e | e <;> rw [e] <;> rfl

theorem resetEnded_no_lanes (st : Straps) (s : State) : (s.resetEnded st).swc.station.lanesRun = false := by
  rcases s.resetEnded_cases st with e | e <;> rw [e] <;> rfl

/-- No stage is entered as a reset ends. -/
theorem resetEnded_not_in (st : Straps) (s : State) (x : Stage) : (s.resetEnded st).swc.station ≠ .inStage x := fun e => by
  have := s.resetEnded_no_stage st
  rw [e] at this
  cases this

theorem LinesWf.resetEnded (h : s.LinesWf) (hs : s.swc.station = .reset) (st : Straps) : (s.resetEnded st).LinesWf := by
  have hreset : (s.resetEnded st).swc.station ≠ .reset := by rcases s.resetEnded_cases st with e | e <;> simp [e]
  have hoff : s.lif.phase = .off := h.phase_off.2 (by rw [hs]; rfl)
  have hidle : s.spu = .idle := by
    by_contra e
    have := h.probe_static e
    rw [hs] at this
    cases this
  have hstop : s.lif.stopDrive ≠ .pulled := fun e => by
    rcases h.pulls_stop e with e | ⟨x, e⟩ <;> rw [hs] at e <;> cases e
  obtain ⟨h1, h2, h3, h4, h5, h6, h7, h8, h9, h10, h11, h12, h13⟩ := h
  constructor
  case identity_iff => exact iff_of_false (fun e => by cases e) hreset
  case pulls_step => exact h2
  case phase_off => exact iff_of_true hoff (s.resetEnded_no_stage st)
  case waiting_iff => exact fun e => by rw [resetEnded_no_stage] at e; cases e
  case step_low => exact h5
  case stop_low => exact h6
  case pulls_stop => exact fun e => absurd e hstop
  case barrier_run => exact h8
  case barrier_limit => exact h9
  case hold_off => exact h10
  case idle_high =>
    intro e
    by_contra hlow
    exact e (if_neg hlow)
  case stop_run => exact iff_of_false (fun e => by cases e) hreset
  case probe_static => exact fun e => absurd hidle e

theorem HoldingWf.resetEnded (st : Straps) (s : State) : (s.resetEnded st).HoldingWf :=
  fun _ => releaseReady_outside (s.resetEnded_no_stage st)

theorem TransmittersWf.resetEnded (h : s.TransmittersWf) (hs : s.swc.station = .reset) (st : Straps) :
    (s.resetEnded st).TransmittersWf :=
  .of_off (s.resetEnded_no_lanes st) fun c => h.off (by rw [hs]; rfl) c

theorem CountsWf.resetEnded (h : s.CountsWf) (st : Straps) : (s.resetEnded st).CountsWf :=
  h.restation ⟨rfl, rfl⟩ (fun _ => ⟨rfl, rfl⟩) fun x e => absurd e (s.resetEnded_not_in st x)

theorem IdentsWf.resetEnded (h : s.IdentsWf) (st : Straps) : (s.resetEnded st).IdentsWf :=
  h.restation (fun _ => rfl) fun x e => absurd e (s.resetEnded_not_in st x)

theorem PeersWf.resetEnded (h : s.PeersWf) (hi : s.identity = none) (st : Straps) : (s.resetEnded st).PeersWf := by
  have hp : (s.resetEnded st).peers = [] := h.in_reset hi
  exact {
    ascending := by rw [hp]; exact .nil
    range := fun x e => by rw [hp] at e; cases e
    not_own := fun x e => by rw [hp] at e; cases e
    expected := fun x e => by rw [hp] at e; cases e
    in_reset := fun _ => hp }

theorem QueueWf.resetEnded (h : s.QueueWf) (hs : s.swc.station = .reset) (st : Straps) : (s.resetEnded st).QueueWf := by
  have hq : s.cfe.queue = [] := h.empty_when (.inl hs)
  exact .of_empty hq (h.no_line hq) fun x e => by rcases s.resetEnded_cases st with e' | e' <;> rw [e'] at e <;> cases e

theorem resetEnded_settled (st : Straps) (s : State) : (s.resetEnded st).SettledWf :=
  .of_none fun x => by rcases s.resetEnded_cases st with e | e <;> simp [itemsDone, e]

theorem resetEnded_lampsWf (st : Straps) (s : State) : (s.resetEnded st).LampsWf := refreshLamps_lampsWf _

/-! ### Every command -/

namespace Ran

theorem lines (hr : s.Ran t) (h : s.LinesWf) : t.LinesWf := by
  cases hr with
  | resetBegin => exact s.resetBegun_lines
  | resetEnd st hs => exact h.resetEnded hs st
  | lane hr => exact hr.keeps LaneAct.lines h
  | control hr => exact hr.keeps ControlAct.lines h

theorem holding (hr : s.Ran t) (hl : s.LinesWf) (h : s.HoldingWf) : t.HoldingWf := by
  cases hr with
  | resetBegin => exact s.resetBegun_holding
  | resetEnd st _ => exact .resetEnded st s
  | lane hr => exact hr.keeps_with_lines LaneAct.holding hl h
  | control hr => exact hr.keeps_with_lines ControlAct.holding hl h

theorem transmitters (hr : s.Ran t) (hl : s.LinesWf) (h : s.TransmittersWf) : t.TransmittersWf := by
  cases hr with
  | resetBegin => exact s.resetBegun_transmitters
  | resetEnd st hs => exact h.resetEnded hs st
  | lane hr => exact hr.keeps LaneAct.transmitters h
  | control hr => exact hr.keeps_with_lines ControlAct.transmitters hl h

theorem counts (hr : s.Ran t) (h : s.CountsWf) : t.CountsWf := by
  cases hr with
  | resetBegin => exact s.resetBegun_counts
  | resetEnd st _ => exact h.resetEnded st
  | lane hr => exact hr.keeps LaneAct.counts h
  | control hr => exact hr.keeps ControlAct.counts h

theorem idents (hr : s.Ran t) (h : s.IdentsWf) : t.IdentsWf := by
  cases hr with
  | resetBegin => exact s.resetBegun_idents
  | resetEnd st _ => exact h.resetEnded st
  | lane hr => exact hr.keeps LaneAct.idents h
  | control hr => exact hr.keeps ControlAct.idents h

theorem peers (hr : s.Ran t) (hl : s.LinesWf) (h : s.PeersWf) : t.PeersWf := by
  cases hr with
  | resetBegin => exact s.resetBegun_peers
  | resetEnd st hs => exact h.resetEnded (hl.identity_iff.2 hs) st
  | lane hr => exact hr.keeps LaneAct.peers h
  | control hr => exact hr.keeps_with_lines ControlAct.peers hl h

theorem queue (hr : s.Ran t) (hl : s.LinesWf) (h : s.QueueWf) : t.QueueWf := by
  cases hr with
  | resetBegin => exact s.resetBegun_queue
  | resetEnd st hs => exact h.resetEnded hs st
  | lane hr => exact hr.keeps LaneAct.queue h
  | control hr => exact hr.keeps_with_lines ControlAct.queue hl h

theorem settled (hr : s.Ran t) (harb : s.Arbitrated) (h : s.SettledWf) : t.SettledWf := by
  cases hr with
  | resetBegin => exact s.resetBegun_settled
  | resetEnd st _ => exact s.resetEnded_settled st
  | lane hr => exact hr.keeps_arbitrated harb LaneAct.settled h
  | control hr => exact hr.keeps ControlAct.settled h

theorem lamps (hr : s.Ran t) (harb : s.Arbitrated) (hl : s.LinesWf) (h : s.LampsWf) : t.LampsWf := by
  cases hr with
  | resetBegin => exact s.resetBegun_lamps
  | resetEnd st _ => exact s.resetEnded_lampsWf st
  | lane hr => exact hr.keeps_arbitrated harb LaneAct.lamps h
  | control hr => exact hr.keeps_with_lines ControlAct.lamps hl h

end Ran

/-! ### All of the invariants -/

/-- The commands that wait are read by no invariant. -/
theorem Wf.setPending (h : s.Wf) (q : List Instr) : Wf { s with pending := q } := by
  have harb : Arbitrated { s with pending := q } :=
    (s.arbitrated_iff.2 ⟨h.lanes, h.monitor⟩).congr (.of_records rfl rfl rfl rfl fun _ => rfl)
  obtain ⟨hlanes, hmonitor⟩ := (arbitrated_iff _).1 harb
  exact {
    identity := ⟨h.identity.of_straps, h.identity.barred_iff⟩
    holding := h.holding
    lines := h.lines.congr rfl rfl rfl rfl rfl
    transmitters := h.transmitters
    lanes := hlanes
    monitor := hmonitor
    counts := h.counts.of_kept rfl rfl fun _ => .refl _ _
    idents := h.idents.of_kept rfl fun _ => .refl _
    settled := h.settled.congr rfl rfl rfl rfl
    peers := h.peers.congr rfl rfl
    queue := h.queue.congr rfl rfl rfl rfl
    control := ⟨h.control.params, h.control.halted, h.control.not_halted, h.control.foreign⟩
    lamps := h.lamps }

/-- R13: the state in which the start of a reset leaves the part has every invariant. -/
theorem resetBegun_allWf (s : State) : s.resetBegun.Wf := by
  obtain ⟨hlanes, hmonitor⟩ := (arbitrated_iff _).1 s.resetBegun_arbitrated
  obtain ⟨hidentity, hcontrol⟩ := (control_wf_iff _).1 s.resetBegun_wf
  exact {
    identity := hidentity
    holding := s.resetBegun_holding
    lines := s.resetBegun_lines
    transmitters := s.resetBegun_transmitters
    lanes := hlanes
    monitor := hmonitor
    counts := s.resetBegun_counts
    idents := s.resetBegun_idents
    settled := s.resetBegun_settled
    peers := s.resetBegun_peers
    queue := s.resetBegun_queue
    control := hcontrol
    lamps := s.resetBegun_lamps }

end State
end Sys2Proof.Machine

namespace Sys2Proof.Proofs
open Sys2Proof.Machine

/-- Settles O54: every lane and control event keeps the lines, and leaves a station that pulls with work to do. -/
theorem linesKept : Obligations.LinesKept :=
  ⟨fun _ _ _ h e => (State.exec_ran e).lines h, fun _ _ _ hl h e => (State.exec_ran e).holding hl h⟩

/-- Settles O56: lane moves keep every record's invariants, and the control events enter or end each stage as a whole. -/
theorem transmittersAndItemsKept : Obligations.TransmittersAndItemsKept :=
  ⟨fun _ _ _ hl h e => (State.exec_ran e).transmitters hl h, fun _ _ _ h e => (State.exec_ran e).counts h,
    fun _ _ _ h e => (State.exec_ran e).idents h⟩

/-- Settles O59: what has settled stays settled under an arbitrated monitor, and in DONE nothing that the lamps show can change. -/
theorem settledAndLampsKept : Obligations.SettledAndLampsKept :=
  ⟨fun _ s _ h e => (State.exec_ran e).settled (s.arbitrated_iff.2 ⟨h.lanes, h.monitor⟩) h.settled,
    fun _ s _ h e => (State.exec_ran e).lamps (s.arbitrated_iff.2 ⟨h.lanes, h.monitor⟩) h.lines h.lamps⟩

/-- Every command keeps the invariants together. -/
theorem exec_keeps_wf {c : Instr} {s t : State} (h : s.Wf) (e : exec c s = .next t) : t.Wf := by
  have hran := State.exec_ran e
  have harb := s.arbitrated_iff.2 ⟨h.lanes, h.monitor⟩
  obtain ⟨hidentity, hcontrol⟩ := controlKept c s t h.identity h.control e
  obtain ⟨hlanes, hmonitor⟩ := lanesAndMonitorKept c s t h.lines h.lanes h.monitor h.settled e
  exact {
    identity := hidentity
    holding := hran.holding h.lines h.holding
    lines := hran.lines h.lines
    transmitters := hran.transmitters h.lines h.transmitters
    lanes := hlanes
    monitor := hmonitor
    counts := hran.counts h.counts
    idents := hran.idents h.idents
    settled := hran.settled harb h.settled
    peers := hran.peers h.lines h.peers
    queue := hran.queue h.lines h.queue
    control := hcontrol
    lamps := hran.lamps harb h.lines h.lamps }

/-- Settles O60: the front command leaves the queue, which no invariant reads, and its meaning keeps the invariants. -/
theorem everyStepKeepsWellFormed : Obligations.EveryStepKeepsWellFormed := by
  intro s t h e
  unfold step at e
  split at e
  · cases e
    exact h
  · exact exec_keeps_wf (h.setPending _) e

/-- Settles O53: the part right after reset is the one that the start of a reset leaves. -/
theorem resetIsWellFormed : Obligations.ResetIsWellFormed := State.reset.resetBegun_allWf

end Sys2Proof.Proofs
end

section
/-! SUPPORT. The edges of CB_STOP and CB_STEP as the line interface takes them, and the reports of a run of CB_STOP (R35, R36, R38, R49,
R51). Settles O21. -/
namespace Sys2Proof.Machine

/-! ### Edges that the part takes -/

/-- R35: a level the line does not show yet, and not a rise against the part's own pull, is a true edge. -/
theorem Level.edge_of_released {level shown : Level} {drive : Drive} (hne : level ≠ shown)
    (hd : level = .low ∨ drive = .released) : ¬ (level = shown ∨ level = .high ∧ drive = .pulled) := by
  rintro (hshown | ⟨hhigh, hpulled⟩)
  · exact hne hshown
  · rcases hd with hlow | hreleased
    · cases hhigh.symm.trans hlow
    · cases hpulled.symm.trans hreleased

/-- R36: every true edge of CB_STOP starts a run. -/
theorem exec_cbStopEdge {s : State} {level : Level} (hne : level ≠ s.lif.stopLine)
    (hd : level = .low ∨ s.lif.stopDrive = .released) :
    exec (.cbStopEdge level) s = .next (s.mapLif (Lif.stopEdge level)) :=
  if_neg (Level.edge_of_released hne hd)

/-- R38, R49: every true edge of CB_STEP reaches the barrier run and the idle-high timer. -/
theorem exec_cbStepEdge {s : State} {level : Level} (hne : level ≠ s.lif.stepLine)
    (hd : level = .low ∨ s.lif.stepDrive = .released) :
    exec (.cbStepEdge level) s = .next (s.mapLif (Lif.stepEdge (s.swc.station == .reset) level)) :=
  if_neg (Level.edge_of_released hne hd)

/-- R38: what a rise of CB_STEP starts. -/
theorem Lif.stepEdge_high (inReset : Bool) (l : Lif) : l.stepEdge inReset .high =
    { l with stepLine := .high, barrierRun := decide (l.phase = .waiting)
             idleHigh := if inReset then .stopped else .running } := rfl

/-- R38, R49: a low ends the barrier run and stops the idle-high timer, whether reset is held or not. -/
theorem Lif.stepEdge_low (inReset : Bool) (l : Lif) : l.stepEdge inReset .low =
    { l with stepLine := .low, barrierRun := false, idleHigh := .stopped } := rfl

/-! ### Runs of CB_STOP -/

/-- R36: a timed high run qualifies. -/
theorem exec_stopQualifiedHigh {s : State} (hrun : s.lif.stopRun = .timing) (hhigh : s.lif.stopLine = .high) :
    exec .stopQualifiedHigh s = .next (s.mapLif Lif.qualifyStop) :=
  if_pos ⟨hrun, hhigh⟩

/-- R36: a run that is not timed, or is reported already, qualifies high no more. -/
theorem exec_stopQualifiedHigh_untimed {s : State} (hrun : s.lif.stopRun ≠ .timing) : exec .stopQualifiedHigh s = .next s :=
  if_neg fun h => hrun h.1

/-- R36: a run that is not timed, or is reported already, qualifies low no more. -/
theorem exec_stopQualifiedLow_untimed {s : State} (hrun : s.lif.stopRun ≠ .timing) : exec .stopQualifiedLow s = .next s :=
  if_neg fun h => hrun h.1

end Sys2Proof.Machine

namespace Sys2Proof.Proofs
open Sys2Proof.Machine

/-- Settles O21: a true edge is the edge of its line by level, and a run is qualified while it is timed alone. -/
theorem lineEdgesAndStopQualification : Obligations.LineEdgesAndStopQualification := by
  refine ⟨fun s level => ⟨fun hne hd => ?stopEdge, fun hrun hhigh => ?qualified, fun hrun => ?untimed⟩,
    fun s => ⟨fun hlow hd hs => ?rise, fun hlow hd hs => ?riseInReset, fun hhigh => ?fall⟩⟩
  case stopEdge => exact exec_cbStopEdge hne hd
  case qualified =>
    rw [exec_stopQualifiedHigh hrun hhigh, ← hhigh]
    rfl
  case untimed => exact ⟨exec_stopQualifiedHigh_untimed hrun, exec_stopQualifiedLow_untimed hrun⟩
  case rise =>
    have hout : (s.swc.station == .reset) = false := by simpa using hs
    rw [exec_cbStepEdge (by simp [hlow]) (.inr hd), hout]
    simp [State.mapLif, Lif.stepEdge_high]
  case riseInReset =>
    have hin : (s.swc.station == .reset) = true := by simpa using hs
    rw [exec_cbStepEdge (by simp [hlow]) (.inr hd), hin]
    simp [State.mapLif, Lif.stepEdge_high]
  case fall =>
    rw [exec_cbStepEdge (by simp [hhigh]) (.inl rfl)]
    simp only [State.mapLif, Lif.stepEdge_low]

end Sys2Proof.Proofs
end

section
/-! SUPPORT. The Peer List and valid tokens (R52, R55, R56, R59, R88, R104 to R106, R115, R130): what noting a peer leaves, and what a
token does to a channel's record. Settles O57, O14 and O43. -/
namespace Sys2Proof.Machine

/-! ### Noting a peer -/

/-- R52, R55, R59: what the Peer List of t answers when slot q was noted in s: other slots answer as before, a slot not listed
is made, a listed one keeps its entry, and the mismatch test is applied to it. -/
structure State.PeerNoted (q : Nat) (announced differs : Bool) (s t : State) : Prop where
  ascending : t.peers.Pairwise fun a b => a.slot < b.slot
  others : ∀ p, p ≠ q → t.peer p = s.peer p
  made : s.peer q = none → t.peer q = some { slot := q, announced := announced, mismatch := differs
                                             expected := s.expectedCount q, heard := 0, matched := 0 }
  kept : ∀ e, s.peer q = some e → t.peer q = some { e with mismatch := e.mismatch || differs }

theorem State.PeersWf.noted {s t : State} (h : s.PeersWf) {q : Nat} {announced differs : Bool}
    (ht : t.peers = upsertPeer (s.newPeer q announced) (·.noteMismatch differs) s.peers) : s.PeerNoted q announced differs t := by
  obtain ⟨hasc, hothers, hmade, hkept, -⟩ :=
    upsertPeer_outcome (s.newPeer q announced) (·.noteMismatch differs) (fun _ => rfl) s.peers h.ascending
  rw [← ht] at hasc hothers hmade hkept
  exact ⟨hasc, hothers, hmade, hkept⟩

theorem State.expectedCount_eq {s : State} {id : Identity} (h : s.identity = some id) (q : Nat) :
    s.expectedCount q = id.expectedCount q := by
  simp [State.expectedCount, h]

/-- The topology bit of a frame or token names the other topology. -/
theorem topologyBit_differs (b : Bool) (x : Topology) :
    (if b then Topology.star else .mesh) ≠ x ↔ (b = true ↔ x = .mesh) := by
  cases b <;> cases x <;> decide

/-- R56: the mismatch test of a PRESENT. -/
theorem presentDiffers_iff (id : Identity) (f : PresentFields) : presentDiffers id f = true ↔
    f.slotsMinusOne.toNat % 16 + 1 ≠ id.slots ∨ (f.topology.getLsbD 0 = true ↔ id.topology = .mesh) ∨
      min f.width.toNat 2 ≠ id.widthCode := by
  simp only [presentDiffers, Bool.or_eq_true, bne_iff_ne, or_assoc, ← topologyBit_differs]
  rfl

/-- R59: the mismatch test of a token. -/
theorem tokenDiffers_iff (id : Identity) (t : Token) : tokenDiffers id t = true ↔
    t.slotsMinusOne.toNat + 1 ≠ id.slots ∨ (t.topology = true ↔ id.topology = .mesh) := by
  simp only [tokenDiffers, Bool.or_eq_true, bne_iff_ne, ← topologyBit_differs]

/-- R55: a PRESENT of another slot with the current tag. -/
theorem State.takePresent_other {s : State} {src : Byte} {f : PresentFields} {id : Identity} (hs : s.swc.station = .inStage .muster)
    (hi : s.identity = some id) (h1 : 1 ≤ src.toNat) (hne : src.toNat ≠ id.slot) (ht : f.tag = s.swc.params.tag) :
    s.takePresent src f = s.takePresentFrom id src.toNat f := by
  have hn : ¬(src.toNat = 0 ∨ f.tag ≠ s.swc.params.tag) := by
    rintro (e | e)
    · omega
    · exact e ht
  simp only [takePresent, hs, hi]
  rw [if_neg hn, if_neg hne]

/-! ### A valid token: the identification items -/

namespace Ident
variable {cls : MappingClass} {src : Source} {i : Ident}

/-- R104: the first token is captured. -/
theorem takeToken_capture (hs : i.state = .opened) (hh : i.heard = none) :
    i.takeToken cls src = { i with heard := some src, matchCount := 1, undecodedRun := 0 } := by
  simp only [takeToken, hs, hh]

/-- R105: a further token of the captured source, short of the sixteenth. -/
theorem takeToken_match (hs : i.state = .opened) (hh : i.heard = some src) (hn : i.matchCount < 15) :
    i.takeToken cls src = { i with matchCount := i.matchCount + 1, undecodedRun := 0 } := by
  have hshort : ¬ i.matchCount + 1 ≥ matchTarget := by simp only [matchTarget]; omega
  simp only [takeToken, hs, hh, if_true, hshort, if_false]

/-- R105: the sixteenth settles the class. -/
theorem takeToken_settle (hs : i.state = .opened) (hh : i.heard = some src) (hn : i.matchCount = 15) :
    i.takeToken cls src = { i with matchCount := 16, undecodedRun := 0, state := .settled, cls := some cls } := by
  have hfull : 15 + 1 ≥ matchTarget := by decide
  simp only [takeToken, hs, hh, hn, if_true, hfull, settle]

/-- R106: a token of another source. -/
theorem takeToken_unstable (hs : i.state = .opened) (hh : i.heard ≠ none) (hne : i.heard ≠ some src) :
    i.takeToken cls src = { i with undecodedRun := 0, state := .settled, cls := some .unstable } := by
  obtain ⟨x, hx⟩ := Option.ne_none_iff_exists'.1 hh
  have hxs : x ≠ src := fun e => hne (e ▸ hx)
  simp only [takeToken, hs, hx, if_neg hxs, settle]

/-- R115: a settled channel hears another source. -/
theorem takeToken_changed (hs : i.state = .settled) (hh : i.heard ≠ none) (hne : i.heard ≠ some src) :
    i.takeToken cls src = { i with sourceChanged := true } := by
  obtain ⟨x, hx⟩ := Option.ne_none_iff_exists'.1 hh
  have hxs : x ≠ src := fun e => hne (e ▸ hx)
  simp only [takeToken, hs, hx, if_neg hxs]

theorem takeToken_ignored (h : i.state = .idle ∨ i.state = .settled ∧ (i.heard = none ∨ i.heard = some src)) :
    i.takeToken cls src = i := by
  rcases h with hs | ⟨hs, hh | hh⟩
  · simp only [takeToken, hs]
  · simp only [takeToken, hs, hh]
  · simp only [takeToken, hs, hh, if_true]

/-- R115, R130: when a token is foreign to a channel. -/
theorem differs_iff : i.differs src = true ↔ i.state = .settled ∧ i.heard ≠ none ∧ i.heard ≠ some src := by
  cases hs : i.state <;> cases hh : i.heard <;> simp [differs, hs, hh]

end Ident

/-! ### A valid token: the record and the station -/

/-- R130: a foreign token in SOAK or STRESS is a fault event. -/
theorem takeTokenRecord_snapshot {st : Stage} (hst : st = .identify ∨ st = .soak ∨ st = .stress) (k : MappingClass) (src : Source)
    (r : Channel) : (takeTokenRecord st k src r).snapshot =
      if r.ident.state = .settled ∧ r.ident.heard ≠ none ∧ r.ident.heard ≠ some src ∧ st ≠ .identify
      then r.snapshot <|> some { stage := st, kind := .foreignToken, n := r.bitNumber st } else r.snapshot := by
  have hstage : (st == .soak || st == .stress) = true ↔ st ≠ .identify := by
    rcases hst with rfl | rfl | rfl <;> decide
  have hfault : (r.ident.differs src && (st == .soak || st == .stress)) = true ↔
      r.ident.state = .settled ∧ r.ident.heard ≠ none ∧ r.ident.heard ≠ some src ∧ st ≠ .identify := by
    rw [Bool.and_eq_true, Ident.differs_iff, hstage]
    tauto
  unfold takeTokenRecord
  simp only [hfault, Channel.noteFault_outcome, Channel.countingN_outcome]
  split <;> rfl

namespace State

/-- R86: a block event of a LOCKED receiver whose marker was seen. -/
theorem execTokenBlockEnd_seen {s : State} {c : Chan} {marker codeword : BitVec 32} (hx : (s.chan c).rx.state = .locked)
    (hm : markerSeen ((s.chan c).rx.polarity.take marker) = true) :
    exec (.tokenBlockEnd c marker codeword) s = .next (finish s ((s.mapChan c (setMiss 0)).takeBlock c codeword)) := by
  simp only [exec, execTokenBlockEnd, hm, hx, RxState.following, if_true]

/-- R88: a token of the current stage and tag with a slot number. -/
theorem tokenValid_intro {s : State} {st : Stage} {t : Token} (hs : s.swc.station = .inStage st)
    (hst : st = .identify ∨ st = .soak ∨ st = .stress) (h1 : 1 ≤ t.slot.toNat) (h16 : t.slot.toNat ≤ 16)
    (hstage : t.stage.toNat = st.code) (htag : t.tag = s.swc.params.tag) : s.tokenValid t = true := by
  rcases hst with rfl | rfl | rfl <;> simp [tokenValid, hs, h1, h16, hstage, htag]

/-- R87, R88: a clean or corrected codeword with a valid token. -/
theorem takeBlock_valid {s : State} {c : Chan} {st : Stage} {id : Identity} {w : BitVec 32} {t : Token}
    (hs : s.swc.station = .inStage st) (hid : s.identity = some id)
    (hd : decodeToken ((s.chan c).rx.polarity.take w) = .clean t ∨ decodeToken ((s.chan c).rx.polarity.take w) = .corrected t)
    (hv : s.tokenValid t = true) : s.takeBlock c w = s.takeValidToken c id t st := by
  rcases hd with hd | hd <;> simp only [takeBlock, hs, hid, hd, hv, if_true]

theorem offerToken_peers (id : Identity) (t : Token) (s : State) : (s.offerToken id t).peers =
    upsertPeer (s.newPeer t.slot.toNat false) (·.noteMismatch (tokenDiffers id t)) s.peers := by
  unfold offerToken
  dsimp only
  split <;> rfl

/-- R59: UNANNOUNCED_PEER is set by a token of a slot not listed. -/
theorem offerToken_flags (id : Identity) (t : Token) (s : State) : (s.offerToken id t).swc.flags =
    if s.peer t.slot.toNat = none then { s.swc.flags with unannouncedPeer := true } else s.swc.flags := by
  cases hp : s.peer t.slot.toNat <;> simp [offerToken, hp]

/-- What a block event with a valid token leaves, before the close of the event: the miss count is cleared (R86) and the token
taken (R88). -/
def tokenTaken (c : Chan) (id : Identity) (t : Token) (st : Stage) (s : State) : State :=
  (s.mapChan c (setMiss 0)).takeValidToken c id t st

/-- R86 to R88: a block with its marker seen and a clean or corrected codeword that carries a valid token. -/
theorem exec_tokenBlockEnd_valid {s : State} {c : Chan} {st : Stage} {id : Identity} {marker codeword : BitVec 32} {t : Token}
    (hs : s.swc.station = .inStage st) (hid : s.identity = some id) (hx : (s.chan c).rx.state = .locked)
    (hm : markerSeen ((s.chan c).rx.polarity.take marker) = true)
    (hd : decodeToken ((s.chan c).rx.polarity.take codeword) = .clean t ∨
      decodeToken ((s.chan c).rx.polarity.take codeword) = .corrected t)
    (hv : s.tokenValid t = true) : exec (.tokenBlockEnd c marker codeword) s = .next (finish s (s.tokenTaken c id t st)) := by
  rw [execTokenBlockEnd_seen hx hm, takeBlock_valid (s := s.mapChan c (setMiss 0)) hs hid _ hv]
  · rfl
  · rw [mapChan_chan_self]
    exact hd

theorem tokenTaken_chan_self (c : Chan) {id : Identity} (t : Token) (st : Stage) {s : State} (hid : s.identity = some id) :
    (s.tokenTaken c id t st).chan c =
      takeTokenRecord st (classFromCapture id c t.source) t.source (setMiss 0 (s.chan c)) := by
  unfold tokenTaken takeValidToken
  dsimp only
  rw [mapChan_chan_self, captureClass_eq (s := s.mapChan c _) hid]
  split <;> simp

theorem tokenTaken_chan_other {c d : Chan} (h : d ≠ c) (id : Identity) (t : Token) (st : Stage) (s : State) :
    (s.tokenTaken c id t st).chan d = s.chan d := by
  unfold tokenTaken takeValidToken
  dsimp only
  rw [mapChan_chan_other h]
  split <;> simp [mapChan_chan_other h]

/-- R88: records, the Peer List and the station flags alone change. -/
theorem tokenTaken_only (c : Chan) (id : Identity) (t : Token) (st : Stage) (s : State) :
    s.tokenTaken c id t st = { s with channels := (s.tokenTaken c id t st).channels
                                      peers := (s.tokenTaken c id t st).peers
                                      swc := { s.swc with flags := (s.tokenTaken c id t st).swc.flags } } := by
  unfold tokenTaken takeValidToken offerToken
  dsimp only
  split
  · rfl
  · split <;> rfl

/-- R59: a token of the own slot is not offered to the Peer List. -/
theorem tokenTaken_own {s : State} {id : Identity} {t : Token} (h : t.slot.toNat = id.slot) (c : Chan) (st : Stage) :
    (s.tokenTaken c id t st).peers = s.peers ∧ (s.tokenTaken c id t st).swc.flags = s.swc.flags := by
  simp only [tokenTaken, takeValidToken, if_pos h]
  exact ⟨rfl, rfl⟩

/-- R59: a token of another slot is noted, unannounced. -/
theorem tokenTaken_peers {s : State} {id : Identity} {t : Token} (h : t.slot.toNat ≠ id.slot) (c : Chan) (st : Stage) :
    (s.tokenTaken c id t st).peers =
      upsertPeer (s.newPeer t.slot.toNat false) (·.noteMismatch (tokenDiffers id t)) s.peers := by
  simp only [tokenTaken, takeValidToken, if_neg h]
  exact offerToken_peers id t (s.mapChan c (setMiss 0))

theorem tokenTaken_flags {s : State} {id : Identity} {t : Token} (h : t.slot.toNat ≠ id.slot) (c : Chan) (st : Stage) :
    (s.tokenTaken c id t st).swc.flags =
      if s.peer t.slot.toNat = none then { s.swc.flags with unannouncedPeer := true } else s.swc.flags := by
  simp only [tokenTaken, takeValidToken, if_neg h]
  exact offerToken_flags id t (s.mapChan c (setMiss 0))

end State
end Sys2Proof.Machine

namespace Sys2Proof.Proofs
open Sys2Proof.Machine

/-- Settles O57: every run of lane and control events keeps the Peer List and the Outbound Queue. -/
theorem peersAndQueueKept : Obligations.PeersAndQueueKept :=
  ⟨fun _ _ _ hl h e => (State.exec_ran e).peers hl h, fun _ _ _ hl h e => (State.exec_ran e).queue hl h⟩

/-- Settles O14: the PRESENT is taken after the end of its frame, and notes its sender as announced. -/
theorem presentTaken : Obligations.PresentTaken := by
  intro src f id s hp hr hs hi h1 h16 hne ht
  have htake : s.afterFrame.takePresent src f = s.afterFrame.takePresentFrom id src.toNat f :=
    State.takePresent_other (s := s.afterFrame) hs hi h1 hne ht
  have hnoted : s.PeerNoted src.toNat true (presentDiffers id f) (s.afterFrame.takePresentFrom id src.toNat f) := hp.noted rfl
  refine ⟨s.afterFrame.takePresentFrom id src.toNat f, presentDiffers id f, ?_, rfl, presentDiffers_iff id f, hnoted.ascending,
    hnoted.others, ?_, hnoted.kept⟩
  · rw [← htake]
    exact receive_taken (by simp [hs]) hr (srcOk_of_le h16)
  · rw [← State.expectedCount_eq hi]
    exact hnoted.made

/-- Settles O43: the block event leaves tokenTaken, whose Peer List, flags and record are read item by item. -/
theorem validTokensTaken : Obligations.ValidTokensTaken := by
  intro s c st id r marker codeword tok src differs hp hr hs hst hid hx hm hd h1 h16 hstage htag hsrc hdiff
  subst hr
  have hsource : tok.source = src := hsrc.symm
  have hslot : src.slot = tok.slot.toNat := by rw [hsrc]
  have htest : tokenDiffers id tok = differs := Bool.eq_iff_iff.2 ((tokenDiffers_iff id tok).trans hdiff.symm)
  have hnext := State.exec_tokenBlockEnd_valid hs hid hx hm hd (State.tokenValid_intro hs hst h1 h16 hstage htag)
  have hrec := State.tokenTaken_chan_self c tok st hid
  have hnoted (hne : src.slot ≠ id.slot) : s.PeerNoted src.slot false differs (s.tokenTaken c id tok st) :=
    hp.noted (by rw [hslot, ← htest]; exact State.tokenTaken_peers (hslot ▸ hne) c st)
  have hflags (hne : src.slot ≠ id.slot) := State.tokenTaken_flags (s := s) (hslot ▸ hne) c st
  rw [hsource] at hrec
  rw [← hslot] at hflags
  refine ⟨s.tokenTaken c id tok st, _, hnext, State.tokenTaken_only c id tok st s, hrec,
    fun d hdc => State.tokenTaken_chan_other hdc id tok st s, ?own, ?others, ?made, ?kept, by simp, by simp, ?rx, by simp, by simp,
    by simp, takeTokenRecord_snapshot hst _ _ _, Ident.takeToken_capture, Ident.takeToken_match, Ident.takeToken_settle,
    Ident.takeToken_unstable, Ident.takeToken_changed, Ident.takeToken_ignored⟩
  case own => exact fun h => State.tokenTaken_own (hslot ▸ h) c st
  case others =>
    intro q hq
    by_cases h : src.slot = id.slot
    · have hpeers := (State.tokenTaken_own (s := s) (hslot ▸ h) c st).1
      simp only [State.peer, hpeers]
    · exact (hnoted h).others q hq
  case made =>
    intro h hnone
    rw [← State.expectedCount_eq hid]
    exact ⟨(hnoted h).made hnone, by rw [hflags h, if_pos hnone]⟩
  case kept =>
    intro e h he
    exact ⟨(hnoted h).kept e he, by rw [hflags h, if_neg (by simp [he])]⟩
  case rx => rw [takeTokenRecord_rx]; rfl

end Sys2Proof.Proofs
end

section
/-! SUPPORT. The frames the part builds (R53, R64, R133, R164, R165, R168, R176, R177): the checks accept a frame laid out by
frameBytes, and each byte of a report payload stands at its offset. Settles O20. -/
namespace Sys2Proof.Machine

/-! ### The checks of R168 on a built frame -/

theorem FrameKind.ofCode_code (k : FrameKind) : FrameKind.ofCode k.code = some k := by cases k <;> rfl

theorem byte_toNat {n : Nat} (h : n < 256) : (byte n).toNat = n := by simp [byte, Nat.mod_eq_of_lt h]

/-- R168: a frame laid out for an accepted length of its kind passes every check. -/
theorem acceptFrame_frameBytes {src : Byte} {k : FrameKind} {payload : List Byte} (hsrc : srcOk src = true)
    (hlen : k.lenOk payload.length = true) (hbyte : payload.length < 256) :
    acceptFrame (frameBytes src k payload) = commandOf src k payload := by
  have hcrc : (payload ++ [crc8 (src :: k.code :: byte payload.length :: payload)]).getLast? =
      some (crc8 (src :: k.code :: byte payload.length :: payload)) := List.getLast?_concat
  simp [frameBytes, acceptFrame, hsrc, FrameKind.ofCode_code, byte_toNat hbyte, hlen, hcrc]

/-- R168: a PRESENT laid out by its fields. -/
theorem acceptFrame_present {src : Byte} (hsrc : srcOk src = true) (f : PresentFields) :
    acceptFrame (frameBytes src .present (presentFieldBytes f)) = some (.presentFrame src f) :=
  acceptFrame_frameBytes hsrc rfl (show 5 < 256 by decide)

/-- R168: a LANEREP of 41 bytes. -/
theorem acceptFrame_lanerep {src : Byte} {payload : List Byte} (hsrc : srcOk src = true) (h : payload.length = 41) :
    acceptFrame (frameBytes src .lanerep payload) = some (.lanerepReceived src payload) := by
  rw [acceptFrame_frameBytes hsrc (by simp [FrameKind.lenOk, h]) (by omega)]
  exact if_pos h

/-- R168: a SLOTREP with at most 15 peer records. -/
theorem acceptFrame_slotrep {src : Byte} {payload : List Byte} {k : Nat} (hsrc : srcOk src = true)
    (h : payload.length = 11 + 2 * k) (hk : k ≤ 15) :
    acceptFrame (frameBytes src .slotrep payload) = some (.slotrepReceived src payload) := by
  have hlen : FrameKind.slotrep.lenOk payload.length = true := by
    simp only [FrameKind.lenOk, slotrepLenOk, h, Bool.and_eq_true, decide_eq_true_eq, beq_iff_eq]
    omega
  rw [acceptFrame_frameBytes hsrc hlen (by omega)]
  exact if_pos hlen

/-! ### The own identity in a frame -/

namespace Identity

/-- R1: the ranges of an identity from straps. -/
theorem ofStraps_range (st : Straps) : (ofStraps st).slot ≤ 16 ∧ 1 ≤ (ofStraps st).slots ∧ (ofStraps st).slots ≤ 16 ∧
    (ofStraps st).widthCode ≤ 2 := by
  have hslot := st.slot.isLt
  have hslots := st.slots.isLt
  simp only [ofStraps]
  omega

/-- R53: the fields of a PRESENT that a station with this identity sends under a tag. -/
def presentFields (id : Identity) (tag : Byte) : PresentFields :=
  { tag := tag
    slotsMinusOne := byte (id.slots - 1)
    topology := byte (match id.topology with | .mesh => 0 | .star => 1)
    width := byte id.widthCode
    policy := byte (match id.policy with | .stopAll => 0 | .carryOn => 1) }

theorem presentPayload_fields {s : State} {id : Identity} (h : s.identity = some id) :
    presentPayload s = presentFieldBytes (id.presentFields s.swc.params.tag) := by
  simp only [presentPayload, h]
  rfl

/-- R56: a station's own PRESENT shows no mismatch. -/
theorem presentFields_agree {id : Identity} (h1 : 1 ≤ id.slots) (h16 : id.slots ≤ 16) (hw : id.widthCode ≤ 2) (tag : Byte) :
    presentDiffers id (id.presentFields tag) = false := by
  have hslots : presentSlots (id.presentFields tag) = id.slots := by
    rw [presentSlots, presentFields, byte_toNat (by omega)]
    omega
  have htopology : presentTopology (id.presentFields tag) = id.topology := by
    cases htop : id.topology <;> simp [presentTopology, presentFields, htop, byte]
  have hwidth : presentWidthCode (id.presentFields tag) = id.widthCode := by
    rw [presentWidthCode, presentFields, byte_toNat (by omega)]
    omega
  simp [presentDiffers, hslots, htopology, hwidth]

theorem presentFields_policy (id : Identity) (tag : Byte) :
    (id.presentFields tag).policy.getLsbD 0 = true ↔ id.policy = .carryOn := by
  simp only [presentFields]
  cases id.policy <;> decide

end Identity

/-! ### The parts of a LANEREP payload -/

theorem sourcePayload_eq (o : Option Source) :
    sourcePayload o = [optByte (o.map (·.slot)), optByte (o.map (·.channel))] := by
  cases o <;> rfl

theorem figuresPayload_eq (o : Option ScanFigures) :
    figuresPayload o = [optByte (o.map (·.w)), optByte (o.map (·.h)), optByte (o.map fun f => (f.o + 16).toNat),
      optByte (o.map fun f => (f.c + 16).toNat)] := by
  cases o <;> rfl

theorem snapshotPayload_eq (o : Option Snapshot) :
    snapshotPayload o = [optByte (o.map (·.stage.code)), optByte (o.map (·.kind.code)), optByte (o.map (·.n / 256 ^ 5)),
      optByte (o.map (·.n / 256 ^ 4)), optByte (o.map (·.n / 256 ^ 3)), optByte (o.map (·.n / 256 ^ 2)),
      optByte (o.map (·.n / 256 ^ 1)), optByte (o.map (·.n / 256 ^ 0))] := by
  cases o <;> rfl

/-- R164, R177: the 41 bytes of a LANEREP, one by one. -/
theorem lanerepPayload_eq (s : State) (c : Chan) : lanerepPayload s c =
    [byte c.val, s.swc.params.tag, optByte ((s.expectedSource c).map (·.slot)), optByte ((s.expectedSource c).map (·.channel)),
      optByte ((s.chan c).ident.heard.map (·.slot)), optByte ((s.chan c).ident.heard.map (·.channel)),
      optByte ((s.chan c).ident.cls.map (·.code)), lanerepFlags s c, optByte ((s.chan c).static.cls.map (·.code)),
      optByte ((s.chan c).static.partner.map (·.code)), byte (s.chan c).rx.retrainCount] ++
    (s.chan c).soak.payload ++ (s.chan c).stress.payload ++ [optByte ((s.chan c).scan.outcome.map (·.code)),
      optByte ((s.chan c).scan.figures.map (·.w)), optByte ((s.chan c).scan.figures.map (·.h)),
      optByte ((s.chan c).scan.figures.map fun f => (f.o + 16).toNat),
      optByte ((s.chan c).scan.figures.map fun f => (f.c + 16).toNat),
      optByte ((s.chan c).snapshot.map (·.stage.code)), optByte ((s.chan c).snapshot.map (·.kind.code)),
      optByte ((s.chan c).snapshot.map (·.n / 256 ^ 5)), optByte ((s.chan c).snapshot.map (·.n / 256 ^ 4)),
      optByte ((s.chan c).snapshot.map (·.n / 256 ^ 3)), optByte ((s.chan c).snapshot.map (·.n / 256 ^ 2)),
      optByte ((s.chan c).snapshot.map (·.n / 256 ^ 1)), optByte ((s.chan c).snapshot.map (·.n / 256 ^ 0)),
      byte ((s.chan c).verdict s.swc.params).code] := by
  simp only [lanerepPayload, sourcePayload_eq, figuresPayload_eq, snapshotPayload_eq]
  rfl

theorem lanerepPayload_length (s : State) (c : Chan) : (lanerepPayload s c).length = 41 := by
  rw [lanerepPayload_eq]
  rfl

/-- A byte that codes an item by f stands as a table of codes says, where the table lists the code of each g. -/
theorem laid_of_table {α β : Type} {f : β → Byte} {g : α → β} {table : List (α × Byte)} (ht : ∀ x ∈ table, f (g x.1) = x.2)
    {p : List Byte} {k : Nat} {y : β} (hp : p[k]? = some (f y)) : ∀ x ∈ table, y = g x.1 → p[k]? = some x.2 := by
  intro x hx hy
  rw [hp, hy, ht x hx]

/-- R133, R177: a count is laid where its eight bytes stand. -/
theorem StageCount.laidAt {n : StageCount} {k : Nat} {p : List Byte} (h : ∀ i, i < 8 → p[k + i]? = n.payload[i]?) :
    n.LaidAt k p where
  outcome := laid_of_table (f := fun o => optByte (o.map CountOutcome.code)) (g := some) (by decide)
    (show p[k]? = some (optByte (n.outcome.map CountOutcome.code)) from h 0 (by decide))
  errors := h 1 (by decide)
  bits := by
    intro i hi
    rw [Nat.add_assoc, h (2 + i) (by omega)]
    interval_cases i <;> rfl

/-- R63, R164: the flag UNANNOUNCED_PEER. -/
theorem State.unannouncedPeer_iff (s : State) (c : Chan) : s.unannouncedPeer c = true ↔
    ∃ src e, (s.chan c).ident.heard = some src ∧ s.peer src.slot = some e ∧ e.announced = false := by
  unfold State.unannouncedPeer
  cases hh : (s.chan c).ident.heard with
  | none => simp
  | some src =>
    dsimp only
    cases hp : s.peer src.slot <;> simp [hp]

/-- R177: O and C are carried with 16 added. -/
theorem signed_byte {x : Int} (hlo : -15 ≤ x) (hhi : x ≤ 15) : ((byte (x + 16).toNat).toNat : Int) = x + 16 := by
  rw [byte_toNat (by omega)]
  omega

/-- R164, R177: every field of a LANEREP stands at its offset. -/
theorem lanerepPayload_laid (s : State) (c : Chan) : s.LanerepLaid c (lanerepPayload s c) := by
  have hp := lanerepPayload_eq s c
  constructor
  case length => exact lanerepPayload_length s c
  case channel | tag | retrains => rw [hp]; rfl
  case expected => intro src h; rw [hp, h]; exact ⟨rfl, rfl⟩
  case heard => intro src h; rw [hp, h]; exact ⟨rfl, rfl⟩
  case heard_absent => intro h; rw [hp, h]; exact ⟨rfl, rfl⟩
  case cls =>
    exact laid_of_table (f := fun o => optByte (o.map MappingClass.code)) (g := some) (by decide) (by rw [hp]; rfl)
  case flags =>
    obtain ⟨h0, h1, h2, h3, h4, h5, h6, h7⟩ := flagBits_six _ _ _ _ _ _ (lanerepFlags s c) rfl
    exact ⟨lanerepFlags s c, by rw [hp]; rfl, h0, h1, h2, by rw [h3]; exact s.unannouncedPeer_iff c, h4, h5, h6, h7⟩
  case static =>
    exact laid_of_table (f := fun o => optByte (o.map StaticClass.code)) (g := fun v => v) (by decide) (by rw [hp]; rfl)
  case partner_own => intro d h; rw [hp, h]; rfl
  case partner_foreign | partner_absent => intro h; rw [hp, h]; rfl
  case soak => exact StageCount.laidAt fun i hi => by rw [hp]; interval_cases i <;> rfl
  case stress => exact StageCount.laidAt fun i hi => by rw [hp]; interval_cases i <;> rfl
  case scan =>
    exact laid_of_table (f := fun o => optByte (o.map ScanOutcome.code)) (g := some) (by decide) (by rw [hp]; rfl)
  case size => intro f h; rw [hp, h]; exact ⟨rfl, rfl⟩
  case offset => intro f h hlo hhi; rw [hp, h]; exact ⟨_, rfl, signed_byte hlo hhi⟩
  case centre => intro f h hlo hhi; rw [hp, h]; exact ⟨_, rfl, signed_byte hlo hhi⟩
  case figures_absent => intro h i hi; rw [hp, h]; interval_cases i <;> rfl
  case snapshot_stage => intro sn h; rw [hp, h]; rfl
  case snapshot_kind =>
    intro sn h
    exact laid_of_table (f := fun k => byte (FaultKind.code k)) (g := fun v => v) (by decide) (by rw [hp, h]; rfl)
  case snapshot_bit => intro sn h i hi; rw [hp, h]; interval_cases i <;> rfl
  case snapshot_absent => intro h i hi; rw [hp, h]; interval_cases i <;> rfl
  case verdict =>
    exact laid_of_table (f := fun v => byte (ChannelVerdict.code v)) (g := fun v => v) (by decide) (by rw [hp]; rfl)

/-! ### The parts of a SLOTREP payload -/

theorem slotrepPayload_length (s : State) : (slotrepPayload s).length = 11 + 2 * s.peers.length := by
  rw [slotrepPayload, List.length_append, peerBytes_length]
  rfl

/-- R64, R177: a peer record is laid where its two bytes stand. -/
theorem PeerEntry.laidAt {e : PeerEntry} {k : Nat} {p : List Byte} (hslot : p[k]? = e.payload[0]?)
    (hflags : p[k + 1]? = e.payload[1]?) : e.LaidAt k p := by
  obtain ⟨h0, h1, h2, h3, h4⟩ := flagBits_four e.announced e.mismatch (decide (e.heard > 0))
    (decide (e.expected > 0 ∧ e.matched = e.expected)) _ rfl
  exact ⟨hslot, _, hflags, h0, h1, by rw [h2, decide_eq_true_iff], by rw [h3, decide_eq_true_iff], h4⟩

/-- R165: the peer records follow the first 11 bytes of a SLOTREP. -/
theorem slotrepPayload_record (s : State) (i : Nat) :
    (slotrepPayload s)[11 + i]? = (s.peers.flatMap (·.payload))[i]? := by
  rw [slotrepPayload, List.getElem?_append_right (by simp)]
  simp

/-- R165, R177: every field of a SLOTREP stands at its offset. -/
theorem slotrepPayload_laid {s : State} {id : Identity} (h : s.identity = some id) : s.SlotrepLaid id (slotrepPayload s) := by
  have hslot : s.ownSlot = id.slot := by simp [State.ownSlot, h]
  have htrunc : (s.identity.map (·.truncatedPorts)).getD 0 = id.truncatedPorts := by simp [h]
  constructor
  case length => exact slotrepPayload_length s
  case slot => rw [← hslot]; rfl
  case tag | peer_count => rfl
  case verdict => exact laid_of_table (f := fun v => byte (SlotVerdict.code v)) (g := fun v => v) (by decide) rfl
  case halt => exact laid_of_table (f := fun v => byte (HaltReason.code v)) (g := fun v => v) (by decide) rfl
  case flags => exact ⟨_, rfl, flagBits_four _ _ _ _ _ rfl⟩
  case passed | failed | excused | untested => rw [← verdictCount_judged]; rfl
  case truncated => rw [← htrunc]; rfl
  case peers =>
    intro i e he
    obtain ⟨h0, h1⟩ := peerBytes_at s.peers i e he
    exact PeerEntry.laidAt (by rw [slotrepPayload_record, h0]) (by rw [Nat.add_assoc, slotrepPayload_record, h1])

end Sys2Proof.Machine

namespace Sys2Proof.Proofs
open Sys2Proof.Machine

/-- Settles O20: each built frame is laid out by frameBytes under a slot number from 1 to 16, and every payload field is laid. -/
theorem ownFramesAccepted : Obligations.OwnFramesAccepted := by
  intro s st id hid hs
  obtain ⟨hslot, hslots, hslots', hwidth⟩ := Identity.ofStraps_range st
  rw [← hid] at hslot hslots hslots' hwidth
  have hown : byte s.ownSlot = BitVec.ofNat 8 id.slot := by simp [State.ownSlot, hs, byte]
  have hsrc : srcOk (BitVec.ofNat 8 id.slot) = true := srcOk_of_le (by rw [← byte, byte_toNat (by omega)]; exact hslot)
  refine ⟨⟨id.presentFields s.swc.params.tag, ?present, rfl, Identity.presentFields_agree hslots hslots' hwidth _,
    Identity.presentFields_policy id _⟩, fun c => ⟨lanerepPayload_laid s c, ?lanerep⟩, slotrepPayload_laid hs, fun hk => ?slotrep⟩
  case present =>
    rw [buildFrame, hown, Identity.presentPayload_fields hs]
    exact acceptFrame_present hsrc _
  case lanerep =>
    rw [buildFrame, hown]
    exact acceptFrame_lanerep hsrc (lanerepPayload_length s c)
  case slotrep =>
    rw [buildFrame, hown]
    exact acceptFrame_slotrep hsrc (slotrepPayload_length s) hk

end Sys2Proof.Proofs
end

section
/-! SUPPORT. The voltage class of a sample and an induced rise (R68, R70): the class between each two thresholds, and when a watched
pair rose. Settles O33. -/

namespace Sys2Proof.Machine

/-! ### The class of a sample (R68) -/

theorem sampleClass_of_lt_vLow {v : MicroVolts} (h : v < vLow) : sampleClass v = .shortLow := if_pos h

theorem sampleClass_of_le_vOpen {v : MicroVolts} (hlow : vLow ≤ v) (hopen : v ≤ vOpen) : sampleClass v = .terminated := by
  rw [sampleClass, if_neg (not_lt.2 hlow), if_pos hopen]

theorem sampleClass_of_le_vRail {v : MicroVolts} (hopen : vOpen < v) (hrail : v ≤ vRail) : sampleClass v = .openPair := by
  have hlow : vLow < v := lt_trans (by decide) hopen
  rw [sampleClass, if_neg hlow.asymm, if_neg (not_le.2 hopen), if_pos hrail]

theorem sampleClass_of_vRail_lt {v : MicroVolts} (hrail : vRail < v) : sampleClass v = .shortHigh := by
  have hopen : vOpen < v := lt_trans (by decide) hrail
  have hlow : vLow < v := lt_trans (by decide) hopen
  rw [sampleClass, if_neg hlow.asymm, if_neg (not_le.2 hopen), if_neg (not_le.2 hrail)]

/-! ### An induced rise (R70) -/

/-- Without a reference reading of the pair no rise is judged. -/
theorem ProbeRound.reference_of_rose {p : ProbeRound} {c : Chan} (h : p.rose c = true) :
    ∃ ref v0, p.reference = some ref ∧ ref[c.val] = some v0 := by
  rw [ProbeRound.rose] at h
  cases href : p.reference with
  | none => simp [href] at h
  | some ref =>
    cases hv0 : ref[c.val] with
    | none => simp [href, hv0] at h
    | some v0 => exact ⟨ref, v0, rfl, hv0⟩

/-- R70: the rise is judged on the difference from the pair's reference reading, over the samples that sensed the pair. -/
theorem ProbeRound.rose_iff {p : ProbeRound} {c : Chan} {ref : Readings} {v0 : MicroVolts} (href : p.reference = some ref)
    (hv0 : ref[c.val] = some v0) :
    p.rose c = true ↔ ∃ v ∈ p.samples, ∃ v1, v[c.val] = some v1 ∧ vInduced < v1 - v0 := by
  simp only [ProbeRound.rose, href, hv0, List.any_eq_true]
  refine exists_congr fun v => and_congr_right fun _ => ?_
  cases v[c.val] with
  | none => simp
  | some v1 => simp

end Sys2Proof.Machine

namespace Sys2Proof.Proofs
open Sys2Proof.Machine

/-- Settles O33: the class in each of the four ranges, and the rise of a pair that has a reference reading. -/
theorem sampleClassesAndRises : Obligations.SampleClassesAndRises := by
  refine ⟨fun v => ⟨sampleClass_of_lt_vLow, sampleClass_of_le_vOpen, sampleClass_of_le_vRail, sampleClass_of_vRail_lt⟩,
    fun p c => ⟨fun hrose => ?rose, fun ⟨ref, v0, href, hv0, hrise⟩ => (ProbeRound.rose_iff href hv0).2 hrise⟩⟩
  obtain ⟨ref, v0, href, hv0⟩ := ProbeRound.reference_of_rose hrose
  exact ⟨ref, v0, href, hv0, (ProbeRound.rose_iff href hv0).1 hrose⟩

end Sys2Proof.Proofs
end

section
/-! SUPPORT. The extended Hamming code of the token (R83, R87, R175): parities are linear, an inverted bit shows in the syndrome as its
own position, and the information bits stand at the information positions. Settles O36 and O37. -/
namespace Sys2Proof.Machine

/-! ### One bit of a word -/

theorem bitAt_true (i : Nat) : bitAt i true = 1#32 <<< i := if_pos rfl

theorem getLsbD_bitAt {i : Nat} (hi : i < 32) (b : Bool) (j : Nat) : (bitAt i b).getLsbD j = (decide (j = i) && b) := by
  cases b with
  | false => simp [bitAt]
  | true =>
    rw [bitAt_true, Bool.and_true, ← BitVec.twoPow_eq, BitVec.getLsbD_twoPow]
    simp [hi, eq_comm]

/-- A bit set at a place that held none is one inverted there. -/
theorem or_bitAt {w : BitVec 32} {i : Nat} (hi : i < 32) (hw : w.getLsbD i = false) (b : Bool) :
    w ||| bitAt i b = w ^^^ bitAt i b := by
  refine BitVec.eq_of_getLsbD_eq fun j _ => ?_
  rw [BitVec.getLsbD_or, BitVec.getLsbD_xor, getLsbD_bitAt hi]
  by_cases hj : j = i
  · simp [hj, hw]
  · simp [hj]

theorem getLsbD_foldl_or {n : Nat} (l : List (BitVec n)) (a : BitVec n) (j : Nat) :
    (l.foldl (· ||| ·) a).getLsbD j = (a.getLsbD j || l.any (·.getLsbD j)) := by
  induction l generalizing a with
  | nil => simp
  | cons x xs ih => simp [ih, Bool.or_assoc]

/-! ### Parities -/

theorem parityBelow_xor (sel : Nat → Bool) (a b : BitVec 32) (n : Nat) :
    parityBelow sel (a ^^^ b) n = (parityBelow sel a n ^^ parityBelow sel b n) := by
  induction n with
  | zero => rfl
  | succ n ih =>
    simp only [parityBelow, ih, BitVec.getLsbD_xor, Bool.and_xor_distrib_left, Bool.xor_assoc,
      Bool.xor_left_comm (sel n && a.getLsbD n)]

theorem parityBelow_bitAt (sel : Nat → Bool) {i : Nat} (hi : i < 32) (b : Bool) (n : Nat) :
    parityBelow sel (bitAt i b) n = (decide (i < n) && (sel i && b)) := by
  induction n with
  | zero => simp [parityBelow]
  | succ n ih =>
    rw [parityBelow, ih, getLsbD_bitAt hi]
    rcases Nat.lt_trichotomy n i with h | h | h
    · simp [Nat.ne_of_lt h, Nat.not_lt.2 (Nat.le_of_lt h), Nat.not_lt.2 h]
    · subst h
      simp
    · simp [h, Nat.ne_of_gt h, Nat.lt_succ_of_lt h]

/-- The parity is that of how many picked positions hold a one. -/
theorem parityBelow_eq (sel : Nat → Bool) (w : BitVec 32) (n : Nat) :
    parityBelow sel w n = decide (((List.range n).filter fun p => sel p && w.getLsbD p).length % 2 = 1) := by
  induction n with
  | zero => rfl
  | succ n ih =>
    rw [parityBelow, ih, List.range_succ, List.filter_append, List.length_append, List.filter_singleton]
    cases sel n && w.getLsbD n
    · simp
    · rw [Bool.xor_true, ← decide_not]
      simp
      omega

theorem checkParity_xor (i : Nat) (a b : BitVec 32) : checkParity i (a ^^^ b) = (checkParity i a ^^ checkParity i b) :=
  parityBelow_xor _ a b 32

theorem overallParity_xor (a b : BitVec 32) : overallParity (a ^^^ b) = (overallParity a ^^ overallParity b) :=
  parityBelow_xor _ a b 32

theorem checkParity_bitAt {p : Nat} (hp : p < 32) (i : Nat) (b : Bool) : checkParity i (bitAt p b) = (p.testBit i && b) := by
  simp [checkParity, parityBelow_bitAt _ hp, hp]

theorem overallParity_bitAt {p : Nat} (hp : p < 32) (b : Bool) : overallParity (bitAt p b) = b := by
  simp [overallParity, parityBelow_bitAt _ hp, hp]

/-- R83: even parity of each check and of all 32 positions. -/
structure EvenParity (w : BitVec 32) : Prop where
  checks : ∀ i, i < 5 → checkParity i w = false
  overall : overallParity w = false

/-! ### The syndrome of inverted bits (R87) -/

theorem syndrome_eq_zero_iff (w : BitVec 32) : syndrome w = 0 ↔ ∀ i, i < 5 → checkParity i w = false := by
  constructor
  · intro h i hi
    rw [← Bool.toNat_eq_zero]
    unfold syndrome at h
    interval_cases i <;> omega
  · intro h
    simp [syndrome, h]

theorem syndrome_bitAt {i : Nat} (hi : i < 32) : syndrome (bitAt i true) = i := by
  simp only [syndrome, checkParity_bitAt hi, Bool.and_true]
  revert i
  decide

/-- Two inverted bits do not cancel: their positions differ in some bit. -/
theorem syndrome_two_bits {i j : Nat} (hi : i < 32) (hj : j < 32) (h : i ≠ j) :
    syndrome (bitAt i true ^^^ bitAt j true) ≠ 0 := by
  intro h0
  refine h ?_
  have hsame : ∀ k, k < 5 → checkParity k (bitAt i true) = checkParity k (bitAt j true) := fun k hk => by
    have := (syndrome_eq_zero_iff _).1 h0 k hk
    rwa [checkParity_xor, bne_eq_false_iff_eq] at this
  calc
    i = syndrome (bitAt i true) := (syndrome_bitAt hi).symm
    _ = syndrome (bitAt j true) := by simp [syndrome, hsame]
    _ = j := syndrome_bitAt hj

namespace EvenParity
variable {w : BitVec 32} (h : EvenParity w)
include h

theorem syndrome_xor (e : BitVec 32) : syndrome (w ^^^ e) = syndrome e := by
  simp [syndrome, checkParity_xor, h.checks]

theorem overallParity_xor (e : BitVec 32) : overallParity (w ^^^ e) = overallParity e := by
  rw [Machine.overallParity_xor, h.overall, Bool.false_xor]

theorem decode_clean : decodeToken w = .clean (Token.ofInfo (takeInfo w)) := by
  simp [decodeToken, h.overall, (syndrome_eq_zero_iff w).2 h.checks]

/-- R87: the syndrome is the position of the inverted bit, which is inverted back. -/
theorem decode_one {i : Nat} (hi : i < 32) : decodeToken (w ^^^ bitAt i true) = .corrected (Token.ofInfo (takeInfo w)) := by
  rw [decodeToken, h.overallParity_xor, overallParity_bitAt hi, if_pos rfl, h.syndrome_xor, syndrome_bitAt hi, BitVec.xor_assoc,
    BitVec.xor_self, BitVec.xor_zero]

/-- R87: two inverted bits leave the overall parity even and the syndrome not 0. -/
theorem decode_two {i j : Nat} (hi : i < 32) (hj : j < 32) (hij : i ≠ j) :
    decodeToken (w ^^^ bitAt i true ^^^ bitAt j true) = .uncorrectable := by
  have hpar : overallParity (bitAt i true ^^^ bitAt j true) = false := by
    rw [Machine.overallParity_xor, overallParity_bitAt hi, overallParity_bitAt hj, Bool.xor_self]
  rw [BitVec.xor_assoc, decodeToken, h.overallParity_xor, hpar, h.syndrome_xor, if_neg Bool.false_ne_true,
    if_neg (syndrome_two_bits hi hj hij)]

end EvenParity

/-! ### The information positions (R83, R175) -/

theorem infoPositions_nodup : infoPositions.Nodup := by decide

theorem infoPositions_lt {k p : Nat} (h : infoPositions[k]? = some p) : k < 26 ∧ p < 32 :=
  ⟨(List.getElem?_eq_some_iff.1 h).1, (by decide : ∀ q ∈ infoPositions, q < 32) p (List.mem_of_getElem? h)⟩

/-- No information bit stands at a check's position or at position 0. -/
theorem infoPositions_ne_check {k p : Nat} (h : infoPositions[k]? = some p) :
    p ≠ 0 ∧ p ≠ 1 ∧ p ≠ 2 ∧ p ≠ 4 ∧ p ≠ 8 ∧ p ≠ 16 :=
  (by decide : ∀ q ∈ infoPositions, q ≠ 0 ∧ q ≠ 1 ∧ q ≠ 2 ∧ q ≠ 4 ∧ q ≠ 8 ∧ q ≠ 16) p (List.mem_of_getElem? h)

theorem infoPositions_inj {k l p : Nat} (hk : infoPositions[k]? = some p) (hl : infoPositions[l]? = some p) : k = l :=
  (List.getElem?_inj (infoPositions_lt hk).1 infoPositions_nodup).1 (hk.trans hl.symm)

theorem getLsbD_placeInfo_iff (info : BitVec 26) (p : Nat) :
    (placeInfo info).getLsbD p = true ↔ ∃ k, infoPositions[k]? = some p ∧ info.getLsbD (25 - k) = true := by
  simp only [placeInfo, getLsbD_foldl_or, BitVec.getLsbD_zero, Bool.false_or, List.any_map, List.any_eq_true, Prod.exists,
    List.mem_zipIdx_iff_getElem?, Function.comp]
  constructor
  · rintro ⟨q, k, hk, hbit⟩
    rw [getLsbD_bitAt (infoPositions_lt hk).2, Bool.and_eq_true, decide_eq_true_iff] at hbit
    exact ⟨k, hbit.1 ▸ hk, hbit.2⟩
  · rintro ⟨k, hk, hbit⟩
    exact ⟨p, k, hk, by rw [getLsbD_bitAt (infoPositions_lt hk).2]; simp [hbit]⟩

/-- Information bit k stands at the k-th information position. -/
theorem getLsbD_placeInfo {k p : Nat} (h : infoPositions[k]? = some p) (info : BitVec 26) :
    (placeInfo info).getLsbD p = info.getLsbD (25 - k) := by
  rw [Bool.eq_iff_iff, getLsbD_placeInfo_iff]
  exact ⟨fun ⟨l, hl, hbit⟩ => infoPositions_inj h hl ▸ hbit, fun hbit => ⟨k, h, hbit⟩⟩

theorem getLsbD_placeInfo_other {p : Nat} (h : p ∉ infoPositions) (info : BitVec 26) : (placeInfo info).getLsbD p = false := by
  rw [← Bool.not_eq_true, getLsbD_placeInfo_iff]
  rintro ⟨k, hk, -⟩
  exact h (List.mem_of_getElem? hk)

/-- Each information bit is taken from its position. -/
theorem getLsbD_takeInfo {k p : Nat} (h : infoPositions[k]? = some p) (w : BitVec 32) :
    (takeInfo w).getLsbD (25 - k) = w.getLsbD p := by
  have hone : ∀ (q l : Nat), infoPositions[l]? = some q →
      ((if w.getLsbD q then 1#26 <<< (25 - l) else 0#26).getLsbD (25 - k) = true ↔ l = k ∧ w.getLsbD q = true) := by
    intro q l hl
    have hk26 := (infoPositions_lt h).1
    have hl26 := (infoPositions_lt hl).1
    rw [← BitVec.twoPow_eq]
    cases w.getLsbD q
    · simp
    · simp only [if_true, BitVec.getLsbD_twoPow, Bool.and_eq_true, decide_eq_true_iff, and_true]
      omega
  rw [Bool.eq_iff_iff]
  simp only [takeInfo, getLsbD_foldl_or, BitVec.getLsbD_zero, Bool.false_or, List.any_map, List.any_eq_true, Prod.exists,
    List.mem_zipIdx_iff_getElem?, Function.comp]
  constructor
  · rintro ⟨q, l, hl, hbit⟩
    obtain ⟨rfl, hw⟩ := (hone q l hl).1 hbit
    rw [h, Option.some.injEq] at hl
    exact hl ▸ hw
  · exact fun hw => ⟨p, k, h, (hone p k h).2 ⟨rfl, hw⟩⟩

/-! ### The codeword of a token -/

theorem getLsbD_xor_bitAt_other {i p : Nat} (hi : i < 32) (h : p ≠ i) (w : BitVec 32) (b : Bool) :
    (w ^^^ bitAt i b).getLsbD p = w.getLsbD p := by
  rw [BitVec.getLsbD_xor, getLsbD_bitAt hi, decide_eq_false h, Bool.false_and, Bool.xor_false]

/-- The check bits stand at positions that held none, so they are inverted there. -/
theorem withChecks_placeInfo (info : BitVec 26) : withChecks (placeInfo info) = placeInfo info ^^^
    bitAt 1 (checkParity 0 (placeInfo info)) ^^^ bitAt 2 (checkParity 1 (placeInfo info)) ^^^
    bitAt 4 (checkParity 2 (placeInfo info)) ^^^ bitAt 8 (checkParity 3 (placeInfo info)) ^^^
    bitAt 16 (checkParity 4 (placeInfo info)) := by
  have hfree : ∀ p ∉ infoPositions, (placeInfo info).getLsbD p = false := fun p hp => getLsbD_placeInfo_other hp info
  unfold withChecks
  rw [or_bitAt (i := 1) (by decide), or_bitAt (i := 2) (by decide), or_bitAt (i := 4) (by decide),
    or_bitAt (i := 8) (by decide), or_bitAt (i := 16) (by decide)] <;>
    simp (disch := decide) only [getLsbD_xor_bitAt_other, hfree]

theorem getLsbD_withChecks (info : BitVec 26) {p : Nat} (h : p ≠ 1 ∧ p ≠ 2 ∧ p ≠ 4 ∧ p ≠ 8 ∧ p ≠ 16) :
    (withChecks (placeInfo info)).getLsbD p = (placeInfo info).getLsbD p := by
  obtain ⟨h1, h2, h4, h8, h16⟩ := h
  rw [withChecks_placeInfo, getLsbD_xor_bitAt_other (by decide) h16, getLsbD_xor_bitAt_other (by decide) h8,
    getLsbD_xor_bitAt_other (by decide) h4, getLsbD_xor_bitAt_other (by decide) h2, getLsbD_xor_bitAt_other (by decide) h1]

theorem Token.encode_eq (t : Token) :
    t.encode = withChecks (placeInfo t.info) ^^^ bitAt 0 (overallParity (withChecks (placeInfo t.info))) := by
  refine or_bitAt (by decide) ?_ _
  rw [getLsbD_withChecks _ (by decide), getLsbD_placeInfo_other (by decide)]

/-- R83: the check bits and the last bit make all parities even. -/
theorem Token.encode_even (t : Token) : EvenParity t.encode where
  checks := fun i hi => by
    rw [encode_eq, checkParity_xor, withChecks_placeInfo]
    interval_cases i <;> simp [checkParity_xor, checkParity_bitAt, Nat.testBit]
  overall := by
    rw [encode_eq, overallParity_xor, overallParity_bitAt (by decide), Bool.xor_self]

/-- R83, R175: information bit k of a token stands at the k-th information position of its codeword. -/
theorem Token.getLsbD_encode (t : Token) {k p : Nat} (h : infoPositions[k]? = some p) :
    t.encode.getLsbD p = t.info.getLsbD (25 - k) := by
  obtain ⟨h0, hp⟩ := infoPositions_ne_check h
  rw [encode_eq, BitVec.getLsbD_xor, getLsbD_withChecks _ hp, getLsbD_placeInfo h, getLsbD_bitAt (by decide)]
  simp [h0]

theorem Token.takeInfo_encode (t : Token) : takeInfo t.encode = t.info := by
  refine BitVec.eq_of_getLsbD_eq fun i hi => ?_
  have hlen : 25 - i < infoPositions.length := Nat.lt_of_le_of_lt (Nat.sub_le 25 i) (by decide)
  have hpos := List.getElem?_eq_getElem hlen
  have := (getLsbD_takeInfo hpos t.encode).trans (t.getLsbD_encode hpos)
  rwa [Nat.sub_sub_self (by omega)] at this

/-- The information bits from the last, field by field. -/
theorem Token.getLsbD_info (t : Token) (i : Nat) : t.info.getLsbD i =
    if i < 1 then (BitVec.ofBool t.topology).getLsbD i
    else if i < 5 then t.slotsMinusOne.getLsbD (i - 1)
    else if i < 13 then t.tag.getLsbD (i - 5)
    else if i < 16 then t.stage.getLsbD (i - 13)
    else if i < 21 then t.channel.getLsbD (i - 16)
    else t.slot.getLsbD (i - 21) := by
  change BitVec.getLsbD (w := 5 + 5 + 3 + 8 + 4 + 1)
    (t.slot ++ t.channel ++ t.stage ++ t.tag ++ t.slotsMinusOne ++ BitVec.ofBool t.topology) i = _
  simp only [BitVec.getLsbD_append, Nat.sub_sub]
  grind

/-- The six fields are cut from where they stand. -/
theorem Token.ofInfo_info (t : Token) : Token.ofInfo t.info = t := by
  obtain ⟨slot, channel, stage, tag, slotsMinusOne, topology⟩ := t
  simp only [Token.ofInfo, Token.mk.injEq]
  refine ⟨?_, ?_, ?_, ?_, ?_, ?_⟩
  case refine_6 => rw [getLsbD_info]; simp
  all_goals
    refine BitVec.eq_of_getLsbD_eq fun i hi => ?_
    rw [BitVec.getLsbD_extractLsb', getLsbD_info]
    grind

end Sys2Proof.Machine

namespace Sys2Proof.Proofs
open Sys2Proof.Machine

/-- Settles O36: the places by getLsbD_encode, the even counts of ones by encode_even. -/
theorem tokenCodewords : Obligations.TokenCodewords := by
  intro t
  have heven : ∀ sel, parityBelow sel t.encode 32 = false →
      ((List.range 32).filter fun p => sel p && t.encode.getLsbD p).length % 2 = 0 := fun sel h => by
    rw [parityBelow_eq, decide_eq_false_iff_not] at h
    omega
  refine ⟨fun k _ p hp => t.getLsbD_encode hp, fun i hi => heven _ (t.encode_even.checks i hi), ?_⟩
  simpa using heven (fun _ => true) t.encode_even.overall

/-- Settles O37: a codeword has even parities, so the decoder sees the inverted bits alone. -/
theorem tokenCodeCorrects : Obligations.TokenCodeCorrects := by
  intro t
  have hinfo : Token.ofInfo (takeInfo t.encode) = t := by rw [t.takeInfo_encode, t.ofInfo_info]
  refine ⟨?_, fun i hi => ?_, fun i j hi hj hij => ?_⟩
  · rw [t.encode_even.decode_clean, hinfo]
  · rw [← bitAt_true, t.encode_even.decode_one hi, hinfo]
  · rw [← bitAt_true, ← bitAt_true, t.encode_even.decode_two hi hj hij]

end Sys2Proof.Proofs
end

section
/-! SUPPORT. The pattern and its prediction (R80, R90), the token of a period (R81, R82) and the outcome of a search (R90, R91).
Settles O35 and O39. -/
namespace Sys2Proof.Machine

/-! ### The pattern (R80) -/

theorem advancePatternBy_succ (n : Nat) (r : BitVec 31) : advancePatternBy (n + 1) r = advancePattern (advancePatternBy n r) := by
  induction n generalizing r with
  | zero => rfl
  | succ n ih => exact ih (advancePattern r)

theorem getLsbD_advancePattern_zero (r : BitVec 31) : (advancePattern r).getLsbD 0 = nextPatternBit r := by
  unfold advancePattern
  cases nextPatternBit r <;> simp

theorem getLsbD_advancePattern_succ (r : BitVec 31) {i : Nat} (hi : i < 30) :
    (advancePattern r).getLsbD (i + 1) = r.getLsbD i := by
  unfold advancePattern
  cases nextPatternBit r <;> simp <;> omega

/-- Each bit moves one place up with every bit that joins. -/
theorem getLsbD_advancePatternBy (r : BitVec 31) {n i : Nat} (h : i + n ≤ 30) :
    (advancePatternBy n r).getLsbD (i + n) = r.getLsbD i := by
  induction n with
  | zero => rfl
  | succ n ih => rw [advancePatternBy_succ, ← Nat.add_assoc, getLsbD_advancePattern_succ _ (by omega), ih (by omega)]

theorem advancePatternBy_add (m n : Nat) (r : BitVec 31) :
    advancePatternBy (m + n) r = advancePatternBy n (advancePatternBy m r) := by
  induction n with
  | zero => rfl
  | succ n ih => rw [← Nat.add_assoc, advancePatternBy_succ, advancePatternBy_succ, ih]

/-- The next 31 bits of the sequence are those held after k bits, the oldest first. -/
theorem patternBit_add (k : Nat) {j : Nat} (hj : j ≤ 30) :
    patternBit (k + j) = (advancePatternBy k patternSeed).getLsbD (30 - j) := by
  have h := getLsbD_advancePatternBy (advancePatternBy k patternSeed) (n := j) (i := 30 - j) (by omega)
  rwa [← advancePatternBy_add, Nat.sub_add_cancel hj] at h

theorem patternBit_first {k : Nat} (hk : k < 31) : patternBit k = true := by
  have h := patternBit_add 0 (j := k) (by omega)
  rw [Nat.zero_add] at h
  rw [h]
  exact (BitVec.getLsbD_allOnes).trans (decide_eq_true (by omega))

/-- R80: each bit is the exclusive-or of those 28 and 31 places before. -/
theorem patternBit_recurrence (k : Nat) : patternBit (k + 31) = (patternBit (k + 3) ^^ patternBit k) := by
  calc
    patternBit (k + 31) = (advancePatternBy (k + 1) patternSeed).getLsbD 0 := patternBit_add (k + 1) (j := 30) (by omega)
    _ = nextPatternBit (advancePatternBy k patternSeed) := by rw [advancePatternBy_succ, getLsbD_advancePattern_zero]
    _ = (patternBit (k + 3) ^^ patternBit k) := by
      rw [patternBit_add k (j := 3) (by omega), ← Nat.add_zero k, patternBit_add k (j := 0) (by omega)]
      rfl

/-! ### The prediction (R90) -/

theorem predictionAgrees_iff (n : Nat) (r : BitVec 31) (w : BitVec 1024) : predictionAgrees n r w = true ↔
    ∀ k, k < n → w.getLsbD (n - 1 - k) = nextPatternBit (advancePatternBy k r) := by
  induction n generalizing r with
  | zero => simp [predictionAgrees]
  | succ n ih =>
    rw [predictionAgrees, Bool.and_eq_true, beq_iff_eq, ih]
    constructor
    · rintro ⟨hfirst, hrest⟩ k hk
      cases k with
      | zero => exact hfirst
      | succ k =>
        have := hrest k (by omega)
        rwa [show n + 1 - 1 - (k + 1) = n - 1 - k by omega]
    · refine fun h => ⟨h 0 (by omega), fun k hk => ?_⟩
      have := h (k + 1) (by omega)
      rwa [show n + 1 - 1 - (k + 1) = n - 1 - k by omega] at this

/-! ### The search (R90, R91) -/

theorem markerForm_eq_some_iff (run : BitVec 32) (pol : Polarity) : markerForm run = some pol ↔
    pol = .normal ∧ run = framingMarker ∨ pol = .inverted ∧ run = ~~~framingMarker := by
  have hne : framingMarker ≠ ~~~framingMarker := by decide
  unfold markerForm
  by_cases hnormal : run = framingMarker
  · cases pol <;> simp [hnormal, hne]
  · by_cases hinverted : run = ~~~framingMarker <;> cases pol <;> simp [hnormal, hinverted, hne.symm]

theorem searchForm_eq_some_iff_both (find1 find2 : BitVec 32) (pol : Polarity) :
    searchForm find1 find2 = some pol ↔ markerForm find1 = some pol ∧ markerForm find2 = some pol := by
  unfold searchForm
  cases h1 : markerForm find1 with
  | none => simp
  | some a =>
    cases h2 : markerForm find2 with
    | none => simp
    | some b =>
      by_cases hab : a = b
      · simp [hab]
      · simp only [if_neg hab, reduceCtorEq, Option.some.injEq, false_iff]
        exact fun ⟨ha, hb⟩ => hab (ha.trans hb.symm)

/-- Both finds show the marker in the form of a polarity. -/
theorem searchForm_eq_some_iff (find1 find2 : BitVec 32) (pol : Polarity) : searchForm find1 find2 = some pol ↔
    pol = .normal ∧ find1 = 0x3C5A96E1#32 ∧ find2 = 0x3C5A96E1#32 ∨
      pol = .inverted ∧ find1 = ~~~0x3C5A96E1#32 ∧ find2 = ~~~0x3C5A96E1#32 := by
  rw [searchForm_eq_some_iff_both, markerForm_eq_some_iff, markerForm_eq_some_iff]
  cases pol <;> simp [framingMarker]

/-- R90: the search succeeds in a form whose prediction holds for all 1,024 bits. -/
theorem searchResult_found {find1 find2 : BitVec 32} {pol : Polarity} {seed : BitVec 31} {next : BitVec 1024}
    (hf : searchForm find1 find2 = some pol)
    (h : ∀ k, k < 1024 → (pol.take next).getLsbD (1023 - k) = nextPatternBit (advancePatternBy k (pol.take seed))) :
    searchResult find1 find2 seed next = some (pol, advancePatternBy 1024 (pol.take seed)) := by
  simp only [searchResult, hf, (predictionAgrees_iff 1024 _ _).2 h, if_true]

theorem searchResult_differs {find1 find2 : BitVec 32} {pol : Polarity} {seed : BitVec 31} {next : BitVec 1024}
    (hf : searchForm find1 find2 = some pol)
    (h : ∃ k, k < 1024 ∧ (pol.take next).getLsbD (1023 - k) ≠ nextPatternBit (advancePatternBy k (pol.take seed))) :
    searchResult find1 find2 seed next = none := by
  obtain ⟨k, hk, hne⟩ := h
  have hfails : ¬ predictionAgrees 1024 (pol.take seed) (pol.take next) = true := fun ha =>
    hne ((predictionAgrees_iff 1024 _ _).1 ha k hk)
  simp only [searchResult, hf, if_neg hfails]

theorem searchResult_no_form {find1 find2 : BitVec 32} (hf : searchForm find1 find2 = none) (seed : BitVec 31)
    (next : BitVec 1024) : searchResult find1 find2 seed next = none := by
  simp only [searchResult, hf]

namespace State

theorem execSearchSuccess_found {s : State} {c : Chan} {find1 find2 : BitVec 32} {seed ref : BitVec 31} {next : BitVec 1024}
    {pol : Polarity} (hx : (s.chan c).rx.state = .searching) (h : searchResult find1 find2 seed next = some (pol, ref)) :
    exec (.searchSuccess c find1 find2 seed next) s =
      .next ((s.mapChan c (searchRecord pol ref)).mapEmn fun m => { m with spotPending := addSpot c m.spotPending }).arbitrate := by
  simp only [exec, execSearchSuccess, hx, h, if_true]

theorem execSearchSuccess_fails {find1 find2 : BitVec 32} {seed : BitVec 31} {next : BitVec 1024}
    (h : searchResult find1 find2 seed next = none) (s : State) (c : Chan) :
    exec (.searchSuccess c find1 find2 seed next) s = .next s := by
  simp only [exec, execSearchSuccess, h, ite_self]

/-! ### The token of a period (R81, R82) -/

theorem execTokenPeriodStart_running {s : State} {c : Chan} {x : TxRun} {st : Stage} (hx : (s.chan c).tx = .running x)
    (hs : s.swc.station = .inStage st) : exec (.tokenPeriodStart c) s =
      .next (s.mapChan c fun r => { r with tx := .running (x.startPeriod (s.tokenFor c st).encode) }) := by
  simp only [exec, execTokenPeriodStart, hx, hs]

theorem execTokenPeriodStart_off {s : State} {c : Chan} (hx : (s.chan c).tx = .off) :
    exec (.tokenPeriodStart c) s = .next s := by
  simp only [exec, execTokenPeriodStart, hx]

theorem laneBit_off {s : State} {c : Chan} (hx : (s.chan c).tx = .off) (k : Nat) : s.laneBit c k = none := by
  simp only [laneBit, hx]

/-- R81: a period that has started sends its 65,536 bits and no more. -/
theorem laneBit_running {s : State} {c : Chan} {x : TxRun} {w : BitVec 32} (hx : (s.chan c).tx = .running x)
    (hw : x.codeword = some w) (k : Nat) : s.laneBit c k = if k < 65536 then some (periodBit w x.patternSent k) else none := by
  simp only [laneBit, hx, hw, periodLength, Option.map_some]

end State

/-- R80, R82: what a period's start stores. -/
theorem TxRun.startPeriod_eq (w : BitVec 32) (x : TxRun) : x.startPeriod w =
    { swing := x.swing, patternSent := if x.codeword = none then x.patternSent else x.patternSent + 65472, codeword := some w } := by
  cases hw : x.codeword <;> simp [TxRun.startPeriod, hw, patternBitsPerPeriod]

/-- R81: the bits of a period that has just started. -/
theorem State.laneBit_started (s : State) (c : Chan) (x : TxRun) (w : BitVec 32) (k : Nat) :
    (s.mapChan c fun r => { r with tx := .running (x.startPeriod w) }).laneBit c k = if k < 65536 then
      some (periodBit w (if x.codeword = none then x.patternSent else x.patternSent + 65472) k) else none := by
  rw [laneBit_running (x := x.startPeriod w) (w := w) (by rw [mapChan_chan_self]) rfl, TxRun.startPeriod_eq]

theorem Stage.code_lt (st : Stage) : st.code < 8 := by cases st <;> decide

/-- R1: both slot counts that straps give have 4 bits and start at 1. -/
theorem Identity.ofStraps_bounds (straps : Straps) : (Identity.ofStraps straps).slot ≤ 16 ∧
    1 ≤ (Identity.ofStraps straps).slots ∧ (Identity.ofStraps straps).slots ≤ 16 :=
  ⟨straps.slot.isLt, Nat.succ_pos _, straps.slots.isLt⟩

/-- R82: the fields of the token, none of which its width cuts. -/
theorem State.tokenFor_fields {s : State} {id : Identity} {straps : Straps} (hid : id = Identity.ofStraps straps)
    (hs : s.identity = some id) (c : Chan) (st : Stage) :
    (s.tokenFor c st).slot.toNat = id.slot ∧ (s.tokenFor c st).channel.toNat = c.val ∧
      (s.tokenFor c st).stage.toNat = st.code ∧ (s.tokenFor c st).tag = s.swc.params.tag ∧
      (s.tokenFor c st).slotsMinusOne.toNat + 1 = id.slots ∧
      ((s.tokenFor c st).topology = true ↔ id.topology = .star) := by
  obtain ⟨hslot, hmin, hmax⟩ := Identity.ofStraps_bounds straps
  rw [← hid] at hslot hmin hmax
  have hstage := st.code_lt
  have hc := c.isLt
  simp only [tokenFor, ownSlot, hs, Option.map_some, Option.getD_some, BitVec.toNat_ofNat, beq_iff_eq, Option.some.injEq,
    true_and, and_true]
  omega

end Sys2Proof.Machine

namespace Sys2Proof.Proofs
open Sys2Proof.Machine

/-- Settles O35: the stored period is startPeriod of the token for the station's state, and laneBit reads it part by part. -/
theorem tokenPeriodStarts : Obligations.TokenPeriodStarts := by
  refine ⟨fun k => ⟨patternBit_first, patternBit_recurrence k⟩,
    fun s c hx => ⟨State.execTokenPeriodStart_off hx, State.laneBit_off hx⟩, ?_⟩
  intro s c x st straps id hid hs hx hst
  have hbit := State.laneBit_started s c x (s.tokenFor c st).encode
  obtain ⟨hslot, hchan, hstage, htag, hslots, htopo⟩ := State.tokenFor_fields hid hs c st
  refine ⟨_, s.tokenFor c st, _, rfl, fun k => ⟨fun hk => ?marker, fun h32 hk => ?codeword, fun h64 hk => ?pattern, fun hk => ?past⟩,
    State.execTokenPeriodStart_running hx hst, hslot, hchan, hstage, htag, hslots, htopo, ?_⟩
  case marker => rw [hbit, if_pos (by omega), periodBit, if_pos hk]; rfl
  case codeword => rw [hbit, if_pos (by omega), periodBit, if_neg (by omega), if_pos hk]
  case pattern => rw [hbit, if_pos hk, periodBit, if_neg (by omega), if_neg (by omega)]
  case past => rw [hbit, if_neg (by omega)]
  rw [← TxRun.startPeriod_eq]
  exact State.mapChan_only c _ s

/-- Settles O39: the three outcomes of searchResult. -/
theorem searchesSucceed : Obligations.SearchesSucceed := by
  intro s c r find1 find2 seed next hr hx
  subst hr
  refine ⟨fun pol hform hall => ?_, fun pol hform hdiff => ?_, fun ⟨hnormal, hinverted⟩ => ?_⟩
  · exact ⟨_, State.execSearchSuccess_found hx (searchResult_found ((searchForm_eq_some_iff _ _ _).2 hform) hall),
      State.mapChan_mapEmn_only c _ _ s⟩
  · exact State.execSearchSuccess_fails (searchResult_differs ((searchForm_eq_some_iff _ _ _).2 hform) hdiff) s c
  · refine State.execSearchSuccess_fails (searchResult_no_form (Option.eq_none_iff_forall_ne_some.2 fun pol h => ?_) seed next) s c
    rcases (searchForm_eq_some_iff _ _ _).1 h with ⟨-, h⟩ | ⟨-, h⟩
    · exact hnormal h
    · exact hinverted h

end Sys2Proof.Proofs
end

section
/-! SUPPORT. The lock attempt and the lock (R86 to R97, R107, R125, R130, R138 to R142, R147): a failure after any change of one record
and the monitor, the clock and marker events of each receiver state, and the end of a SPOT. Settles O38, O40, O41, O42 and O47. -/
namespace Sys2Proof.Machine

/-! ### Records -/

theorem Channel.mapCount_soak (st : Stage) (f : StageCount → StageCount) (r : Channel) :
    (r.mapCount st f).soak = if st = .soak then f r.soak else r.soak := by
  cases st <;> rfl

theorem Channel.mapCount_stress (st : Stage) (f : StageCount → StageCount) (r : Channel) :
    (r.mapCount st f).stress = if st = .stress then f r.stress else r.stress := by
  cases st <;> rfl

theorem Channel.eq_of_items {r r' : Channel} (hstatic : r.static = r'.static) (htx : r.tx = r'.tx) (hrx : r.rx = r'.rx)
    (hident : r.ident = r'.ident) (hsoak : r.soak = r'.soak) (hstress : r.stress = r'.stress)
    (hsnapshot : r.snapshot = r'.snapshot) (hscan : r.scan = r'.scan) : r = r' := by
  cases r
  cases r'
  simp_all

/-- R147: a lock loss of a channel whose scan is pending or granted. -/
theorem Scan.lose_eq (k : Scan) : k.lose =
    if k.state = .pending ∨ k.state = .granted ∧ k.attempts < 2 then { k with state := .awaitLock }
    else if k.state = .granted then { k with state := .settled, outcome := some .aborted }
    else k := by
  unfold Scan.lose
  cases hk : k.state <;> simp [Scan.settle]
  grind

namespace State

/-! ### What a lock loss and a lock leave of a record -/

section Lose
variable (st : Stage) (r : Channel)

theorem loseRecord_snapshot : (loseRecord st r).snapshot =
    (r.snapshot <|> some { stage := st, kind := .lockLost, n := r.bitNumber st }) := by
  simp [loseRecord, Channel.noteFault_outcome, Channel.countingN_outcome]

theorem loseRecord_ident : (loseRecord st r).ident =
    if r.ident.state = .opened then { r.ident with undecodedRun := 0 } else r.ident := rfl

theorem loseRecord_soak : (loseRecord st r).soak =
    if st = .soak ∧ r.soak.state = .counting then { r.soak with state := .settled, outcome := some .lost } else r.soak := by
  rw [ite_and]
  simp only [loseRecord, Channel.mapCount_soak, Channel.noteFault_soak, StageCount.lose, StageCount.settle]

theorem loseRecord_stress : (loseRecord st r).stress =
    if st = .stress ∧ r.stress.state = .counting then { r.stress with state := .settled, outcome := some .lost }
    else r.stress := by
  rw [ite_and]
  simp only [loseRecord, Channel.mapCount_stress, Channel.noteFault_stress, StageCount.lose, StageCount.settle]

end Lose

/-- R93: what reaches the record when the receiver locks, but for the counts. -/
theorem lockRecord_items (st : Stage) (b : Bool) (r : Channel) : (lockRecord st b r).rx = { r.rx with state := .locked } ∧
    (lockRecord st b r).ident = (if r.ident.state = .opened then { r.ident with undecodedRun := 0 } else r.ident) ∧
    (lockRecord st b r).scan = (if r.scan.state = .awaitLock then { r.scan with state := .pending } else r.scan) :=
  ⟨rfl, rfl, rfl⟩

/-- R120: a WAITING count of the stage starts, once the settle delay has ended. -/
theorem lockRecord_soak (st : Stage) (t : Timer) (r : Channel) : (lockRecord st (!t.isRunning) r).soak =
    if st = .soak ∧ r.soak.state = .waiting ∧ t = .stopped then { r.soak with state := .counting, n := 0, e := 0 }
    else r.soak := by
  cases t with
  | running us => simp [lockRecord, Timer.isRunning]
  | stopped =>
    simp only [lockRecord, Timer.isRunning, Bool.not_false, if_true, Channel.mapCount_soak, StageCount.start, and_true]
    rw [ite_and]

theorem lockRecord_stress (st : Stage) (t : Timer) (r : Channel) : (lockRecord st (!t.isRunning) r).stress =
    if st = .stress ∧ r.stress.state = .waiting ∧ t = .stopped then { r.stress with state := .counting, n := 0, e := 0 }
    else r.stress := by
  cases t with
  | running us => simp [lockRecord, Timer.isRunning]
  | stopped =>
    simp only [lockRecord, Timer.isRunning, Bool.not_false, if_true, Channel.mapCount_stress, StageCount.start, and_true]
    rw [ite_and]

/-! ### A failure after a change of the record and the monitor -/

/-- What a failure leaves does not turn on the records or the monitor, from which no class is derived. -/
theorem FailedIn.of_changed {s u : State} {c : Chan} {rc : Channel} {m : Emn} (hu : s.ChanAndMonitor c rc m u) {st : Stage}
    {d : Chan} {r r' : Channel} (h : u.FailedIn st d r r') : s.FailedIn st d r r' := by
  obtain ⟨hframe, -, -⟩ := hu
  rw [hframe] at h
  obtain ⟨hwaits, hdies⟩ := h
  refine ⟨hwaits, fun hb => ?_⟩
  have hd := hdies hb
  exact { hd with ident_open := hd.ident_open }

theorem mapEmn_chanAndMonitor (c : Chan) (f : Emn → Emn) (s : State) :
    s.ChanAndMonitor c (s.chan c) (f s.emn) (s.mapEmn f) := ⟨rfl, rfl, fun _ _ => rfl⟩

/-- R95, R96: the retrain count rises after the record of channel c and the monitor have changed. -/
theorem ChanAndMonitor.countFailure {s u : State} {st : Stage} {c : Chan} {r : Channel} {m : Emn}
    (hu : s.ChanAndMonitor c r m u) (hs : s.swc.station = .inStage st) :
    ∃ r', s.FailedIn st c r r' ∧ s.ChanAndMonitor c r' m (u.countFailure c) := by
  have hs' : u.swc.station = .inStage st := by rw [hu.same.2, hs]
  obtain ⟨r', hfail, hframe, hchan, hother⟩ := countFailure_outcome hs' c
  rw [hu.2.1] at hfail
  rw [← hu.emn_eq]
  exact ⟨r', hfail.of_changed hu, (hu.emn_eq ▸ hu).after ⟨hframe, hchan, hother⟩⟩

/-- R92, R95, R141: a failed attempt. -/
theorem failAttempt_outcome {s : State} {st : Stage} (hs : s.swc.station = .inStage st) (c : Chan) :
    ∃ u r', s.failAttempt c = finish s u.arbitrate ∧ s.FailedIn st c (s.chan c) r' ∧
      s.ChanAndMonitor c r' { s.emn with spotPending := s.emn.spotPending.erase c, grant := s.emn.withoutGrantOf c } u := by
  obtain ⟨r', hfail, honly⟩ := (mapEmn_chanAndMonitor c (·.dropSpot c) s).countFailure hs
  exact ⟨_, r', rfl, hfail, honly⟩

/-- R94, R147: a lock loss. -/
theorem loseLock_outcome {s : State} {st : Stage} (hs : s.swc.station = .inStage st) (c : Chan) :
    ∃ u r', s.loseLock c = finish s u.arbitrate ∧ s.FailedIn st c (loseRecord st (s.chan c)) r' ∧
      s.ChanAndMonitor c r' { s.emn with
        scanQueue := s.emn.scanQueue.erase c, grant := s.emn.withoutGrantOf c
        skip := if s.emn.scanQueue.erase c = [] then 0 else s.emn.skip } u := by
  obtain ⟨r', hfail, honly⟩ := (mapChan_mapEmn_only c (loseRecord st) (·.dropScan c) s).countFailure hs
  exact ⟨_, r', loseLock_of_stage hs c, hfail, honly⟩

/-! ### The clock and the retrain timer -/

section Clock
variable {s : State} {c : Chan}

theorem exec_clockLoss_attempt (hx : (s.chan c).rx.state = .searching ∨ (s.chan c).rx.state = .spotWait ∨
    (s.chan c).rx.state = .spotRun) : exec (.clockLoss c) s = .next (s.failAttempt c) := by
  rcases hx with hx | hx | hx <;> simp only [exec, execClockLoss, hx]

theorem exec_clockLoss_locked (hx : (s.chan c).rx.state = .locked) : exec (.clockLoss c) s = .next (s.loseLock c) := by
  simp only [exec, execClockLoss, hx]

theorem exec_clockLoss_none (hx : (s.chan c).rx.state = .off ∨ (s.chan c).rx.state = .acquiring ∨
    (s.chan c).rx.state = .retrainWait ∨ (s.chan c).rx.state = .held ∨ (s.chan c).rx.state = .dead) :
    exec (.clockLoss c) s = .next s := by
  rcases hx with hx | hx | hx | hx | hx <;> simp only [exec, execClockLoss, hx]

/-- R89, R97, R99: what the retrain period ends in turns on the stage limit alone. -/
theorem exec_retrainTimerExpiry (hx : (s.chan c).rx.state = .retrainWait) (ht : (s.chan c).rx.retrainTimer.isRunning = true) :
    exec (.retrainTimerExpiry c) s = .next (s.mapChan c fun r =>
      { r with rx := if s.swc.limitExpired then { r.rx with state := .held, retrainTimer := .stopped }
                     else r.rx.startAttempt }) := if_pos ⟨hx, ht⟩

end Clock

end State

/-! ### Markers (R86) -/

theorem markerSeen_iff (w : BitVec 32) : markerSeen w = true ↔
    ((List.range 32).filter fun i => w.getLsbD i != (0x3C5A96E1#32).getLsbD i).length ≤ 3 := by
  simp only [markerSeen, ones32, BitVec.getLsbD_xor, decide_eq_true_iff]
  rfl

namespace State

section Markers
variable {s : State} {c : Chan} {marker : BitVec 32} (codeword : BitVec 32)

theorem following_of_spot (hx : (s.chan c).rx.state = .spotWait ∨ (s.chan c).rx.state = .spotRun) :
    (s.chan c).rx.state.following = true ∧ (s.chan c).rx.state ≠ .locked := by
  rcases hx with hx | hx <;> rw [hx] <;> decide

theorem exec_tokenBlockEnd_spot_seen (hx : (s.chan c).rx.state = .spotWait ∨ (s.chan c).rx.state = .spotRun)
    (hm : markerSeen ((s.chan c).rx.polarity.take marker) = true) :
    exec (.tokenBlockEnd c marker codeword) s = .next (s.mapChan c (setMiss 0)) := by
  obtain ⟨hfollows, hnot⟩ := following_of_spot hx
  simp only [exec, execTokenBlockEnd, hfollows, hm, if_neg hnot, if_true]

theorem exec_tokenBlockEnd_spot_missed (hx : (s.chan c).rx.state = .spotWait ∨ (s.chan c).rx.state = .spotRun)
    (hm : markerSeen ((s.chan c).rx.polarity.take marker) = false) (hn : (s.chan c).rx.missCount < 3) :
    exec (.tokenBlockEnd c marker codeword) s = .next (s.mapChan c (setMiss ((s.chan c).rx.missCount + 1))) := by
  obtain ⟨hfollows, hnot⟩ := following_of_spot hx
  have hshort : ¬ (s.chan c).rx.missCount + 1 ≥ missLimit := by simp only [missLimit]; omega
  simp only [exec, execTokenBlockEnd, hfollows, hm, if_neg hnot, if_neg hshort, Bool.false_eq_true, if_true, if_false]

theorem exec_tokenBlockEnd_locked_missed (hx : (s.chan c).rx.state = .locked)
    (hm : markerSeen ((s.chan c).rx.polarity.take marker) = false) (hn : (s.chan c).rx.missCount < 3) :
    exec (.tokenBlockEnd c marker codeword) s =
      .next (finish s ((s.mapChan c (setMiss ((s.chan c).rx.missCount + 1))).takeNoToken c)) := by
  have hshort : ¬ (s.chan c).rx.missCount + 1 ≥ missLimit := by simp only [missLimit]; omega
  simp only [exec, execTokenBlockEnd, hx, hm, RxState.following, if_neg hshort, Bool.false_eq_true, if_true, if_false]

/-- R86: the fourth miss in a row is what a clock loss is. -/
theorem exec_tokenBlockEnd_fourth_miss (hx : (s.chan c).rx.state = .spotWait ∨ (s.chan c).rx.state = .spotRun ∨
    (s.chan c).rx.state = .locked) (hm : markerSeen ((s.chan c).rx.polarity.take marker) = false)
    (hn : (s.chan c).rx.missCount = 3) :
    exec (.tokenBlockEnd c marker codeword) s = exec (.clockLoss c) (s.mapChan c (setMiss 4)) := by
  have hlimit : 3 + 1 ≥ missLimit := by decide
  have hrx : ((s.mapChan c (setMiss 4)).chan c).rx.state = (s.chan c).rx.state := by rw [mapChan_chan_self]; rfl
  rcases hx with hx | hx | hx <;>
    simp only [exec, execTokenBlockEnd, execClockLoss, hrx, hx, hm, hn, hlimit, RxState.following, Bool.false_eq_true,
      reduceCtorEq, if_true, if_false]

theorem exec_tokenBlockEnd_not_following (hx : (s.chan c).rx.state.following = false) :
    exec (.tokenBlockEnd c marker codeword) s = .next s := by
  simp only [exec, execTokenBlockEnd, hx, Bool.false_eq_true, if_false]

end Markers

/-! ### Blocks without a valid token (R87, R88, R107) -/

/-- R88: what makes a token invalid in a stage. -/
theorem tokenValid_eq_false {s : State} {st : Stage} {t : Token} (hs : s.swc.station = .inStage st)
    (h : t.slot.toNat = 0 ∨ 16 < t.slot.toNat ∨ t.stage.toNat ≠ st.code ∨ t.tag ≠ s.swc.params.tag) :
    s.tokenValid t = false := by
  rw [← Bool.not_eq_true]
  intro hv
  have hfields : 1 ≤ t.slot.toNat ∧ t.slot.toNat ≤ 16 ∧ t.tag = s.swc.params.tag ∧ t.stage.toNat = st.code := by
    cases st <;> simp_all [tokenValid]
  obtain ⟨h1, h16, htag, hstage⟩ := hfields
  rcases h with h | h | h | h
  · omega
  · omega
  · exact h hstage
  · exact h htag

theorem takeBlock_invalid {s : State} {c : Chan} {st : Stage} {id : Identity} {w : BitVec 32} {t : Token}
    (hs : s.swc.station = .inStage st) (hid : s.identity = some id)
    (hd : decodeToken ((s.chan c).rx.polarity.take w) = .clean t ∨ decodeToken ((s.chan c).rx.polarity.take w) = .corrected t)
    (hv : s.tokenValid t = false) : s.takeBlock c w = s.takeNoToken c := by
  rcases hd with hd | hd <;> simp only [takeBlock, hs, hid, hd, hv, Bool.false_eq_true, if_false]

theorem takeBlock_uncorrectable {s : State} {c : Chan} {st : Stage} {id : Identity} {w : BitVec 32}
    (hs : s.swc.station = .inStage st) (hid : s.identity = some id)
    (hd : decodeToken ((s.chan c).rx.polarity.take w) = .uncorrectable) :
    s.takeBlock c w = (s.noteUncorrectable c st).takeNoToken c := by
  simp only [takeBlock, hs, hid, hd]

/-- R107: an empty block after a change of the record that leaves the identification items. -/
theorem takeNoToken_only (c : Chan) (f : Channel → Channel) (s : State) (hf : (f (s.chan c)).ident = (s.chan c).ident) :
    s.OnlyChan c { f (s.chan c) with ident := (s.chan c).ident.withoutToken } ((s.mapChan c f).takeNoToken c) := by
  have honly := mapChan_only c (fun r => { f r with ident := (f r).ident.takeNoToken }) s
  rw [hf, Ident.takeNoToken_outcome] at honly
  rwa [takeNoToken, mapChan_mapChan]

/-- R87, R130: an uncorrectable codeword is a fault event and an empty block. -/
theorem uncorrectable_only (c : Chan) (st : Stage) (s : State) :
    s.OnlyChan c { s.chan c with
      rx := { (s.chan c).rx with missCount := 0 }
      ident := (s.chan c).ident.withoutToken
      snapshot := (s.chan c).snapshot <|> some { stage := st, kind := .tokenUncorrectable, n := (s.chan c).bitNumber st } }
      (((s.mapChan c (setMiss 0)).noteUncorrectable c st).takeNoToken c) := by
  have honly := takeNoToken_only c
    (fun r => (setMiss 0 r).noteFault st .tokenUncorrectable ((setMiss 0 r).countingN st)) s (by simp)
  rw [Channel.noteFault_outcome, Channel.countingN_outcome] at honly
  rw [noteUncorrectable, mapChan_mapChan]
  exact honly

/-! ### The end of a SPOT (R140, R151) -/

section Spot
variable {s : State} {g : Grant}

theorem exec_pointEnd_due (hg : s.emn.grant = some g) (hb : g.bits = 2 ^ s.swc.params.p) (d : Bool) :
    exec (.pointEnd d) s = .next (s.takePoint g !g.disagreed) := by
  rw [← endPoint_due hg hb]
  rfl

theorem takePoint_first (hp : g.procedure = .spot none) (isOpen : Bool) :
    s.takePoint g isOpen = s.startPoint g.channel (.spot (some isOpen)) spotSecondPoint := by
  simp only [takePoint, hp]

/-- R140: the second point gives the SPOT its result. -/
theorem takePoint_second {first : Bool} (hp : g.procedure = .spot (some first)) (isOpen : Bool) :
    s.takePoint g isOpen = s.endSpot g.channel (first && isOpen) := by
  simp only [takePoint, hp]

theorem endSpot_fails {st : Stage} (hs : s.swc.station = .inStage st) (c : Chan) :
    ∃ u r', s.endSpot c false = finish s u.arbitrate ∧ s.FailedIn st c (s.chan c) r' ∧
      s.ChanAndMonitor c r' { s.emn with grant := none } u := by
  obtain ⟨r', hfail, honly⟩ := (mapEmn_chanAndMonitor c Emn.free s).countFailure hs
  exact ⟨_, r', rfl, hfail, honly⟩

/-- R93, R142: the receiver locks on a free monitor, and a scan that waited for it joins the queue. -/
theorem endSpot_passes {st : Stage} (hs : s.swc.station = .inStage st) (c : Chan) :
    ∃ u, s.endSpot c true = finish s u.arbitrate ∧
      s.ChanAndMonitor c (lockRecord st (!s.swc.settleDelay.isRunning) (s.chan c)) (if (s.chan c).scan.state = .awaitLock
        then { s.emn with grant := none, scanQueue := s.emn.scanQueue ++ [c] } else { s.emn with grant := none }) u :=
  ⟨_, rfl, (mapEmn_chanAndMonitor c Emn.free s).after (lock_outcome (s := s.mapEmn Emn.free) hs c)⟩

end Spot

end State

end Sys2Proof.Machine

namespace Sys2Proof.Proofs
open Sys2Proof.Machine

/-- Settles O38: a change of the receive items alone, or none. -/
theorem attemptsStart : Obligations.AttemptsStart := by
  refine ⟨?_, fun s c hx => State.exec_clockLoss_none hx⟩
  rintro s c r rfl
  refine ⟨fun hx => ⟨_, if_pos hx, State.mapChan_only c _ s⟩, fun hx ht hl => ⟨_, State.exec_retrainTimerExpiry hx ht, ?_⟩,
    fun hx ht hl => ⟨_, State.exec_retrainTimerExpiry hx ht, ?_⟩⟩
  all_goals
    rw [hl]
    exact State.mapChan_only c _ s

/-- Settles O40: in each phase the command is a failed attempt. -/
theorem attemptsFail : Obligations.AttemptsFail := by
  intro s c st e hs he
  have hnext : exec e s = .next (s.failAttempt c) := by
    rcases he with ⟨rfl, hx⟩ | ⟨rfl, hx⟩ | ⟨rfl, hx⟩
    · exact if_pos hx
    · exact if_pos hx
    · exact State.exec_clockLoss_attempt hx
  obtain ⟨u, r', hfinish, hfail, honly⟩ := State.failAttempt_outcome hs c
  exact ⟨u, r', by rw [hnext, hfinish], hfail, honly⟩

/-- Settles O41: the record before the failure is loseRecord, item by item. -/
theorem lockIsLost : Obligations.LockIsLost := by
  rintro s c st r lost hs rfl hx hstatic htx hrx hsnapshot hident hsoak hstress hscan
  have hlost : lost = State.loseRecord st (s.chan c) := by
    refine Channel.eq_of_items ?_ ?_ ?_ ?_ ?_ ?_ ?_ ?_
    · rw [hstatic, State.loseRecord_static]
    · rw [htx, State.loseRecord_tx]
    · rw [hrx, State.loseRecord_rx]
    · rw [hident, State.loseRecord_ident]
    · rw [hsoak, State.loseRecord_soak]
    · rw [hstress, State.loseRecord_stress]
    · rw [hsnapshot, State.loseRecord_snapshot]
    · rw [hscan, ← Scan.lose_eq]; rfl
  obtain ⟨u, r', hfinish, hfail, honly⟩ := State.loseLock_outcome hs c
  exact ⟨u, r', by rw [State.exec_clockLoss_locked hx, hfinish], hlost ▸ hfail, honly⟩

/-- Settles O42: the marker decides the miss count, and a LOCKED block without a valid token is an empty one. -/
theorem markersAndEmptyBlocks : Obligations.MarkersAndEmptyBlocks := by
  refine ⟨?_, ?_⟩
  · rintro s c r marker codeword seen rfl hseen
    rw [← markerSeen_iff, ← Bool.eq_iff_iff] at hseen
    subst hseen
    refine ⟨fun hx => ⟨fun hm => ?_, fun hm hn => ?_⟩, fun hx hm hn => ?_, fun hx => ?_⟩
    · exact ⟨_, State.exec_tokenBlockEnd_spot_seen codeword hx hm, State.mapChan_only c (setMiss 0) s⟩
    · exact ⟨_, State.exec_tokenBlockEnd_spot_missed codeword hx hm hn, State.mapChan_only c (setMiss _) s⟩
    · exact ⟨_, State.mapChan_only c (setMiss 4) s, State.exec_tokenBlockEnd_fourth_miss codeword hx hm hn⟩
    · exact State.exec_tokenBlockEnd_not_following codeword hx
  · rintro s c st id r marker codeword rfl hs hid hx
    refine ⟨fun hm hn => ?_, fun hm hd => ?_, fun tok hm hd hinvalid => ?_⟩
    · exact ⟨_, State.exec_tokenBlockEnd_locked_missed codeword hx hm hn, State.takeNoToken_only c (setMiss _) s rfl⟩
    · refine ⟨_, State.execTokenBlockEnd_seen hx hm, ?_⟩
      rw [State.takeBlock_uncorrectable (s := s.mapChan c (setMiss 0)) hs hid (by rw [State.mapChan_chan_self]; exact hd)]
      exact State.uncorrectable_only c st s
    · refine ⟨_, State.execTokenBlockEnd_seen hx hm, ?_⟩
      rw [State.takeBlock_invalid (s := s.mapChan c (setMiss 0)) hs hid (by rw [State.mapChan_chan_self]; exact hd)
        (State.tokenValid_eq_false hs hinvalid)]
      exact State.takeNoToken_only c (setMiss 0) s rfl

/-- Settles O47: a point ends at 2^P bits alone, by its procedure and, at the second point, by the result of both. -/
theorem spotPointsEnd : Obligations.SpotPointsEnd := by
  refine ⟨fun s d h => congrArg Host.Outcome.next (State.endPoint_early h), ?_⟩
  rintro s g d st c r hg rfl hb rfl hs
  have hnext := State.exec_pointEnd_due hg hb d
  refine ⟨fun hp => ?_, fun first hp hclosed => ?_, fun hp hopen => ?_⟩
  · rw [hnext, State.takePoint_first hp]
    rfl
  · obtain ⟨u, r', hfinish, hfail, honly⟩ := State.endSpot_fails hs g.channel
    exact ⟨u, r', by rw [hnext, State.takePoint_second hp, hclosed, hfinish], hfail, honly⟩
  · obtain ⟨u, hfinish, honly⟩ := State.endSpot_passes hs g.channel
    obtain ⟨hrx, hident, hscan⟩ := State.lockRecord_items st (!s.swc.settleDelay.isRunning) (s.chan g.channel)
    refine ⟨u, _, by rw [hnext, State.takePoint_second hp, hopen]; exact congrArg _ hfinish, honly, by simp, by simp, by simp,
      hrx, hident, hscan, State.lockRecord_soak st _ _, State.lockRecord_stress st _ _⟩

end Sys2Proof.Proofs
end

section
/-! SUPPORT. The mapping class (R62, R110): one lemma per row of the table for a captured source, and the class of a channel that heard
nothing by the Peer List entry of its expected slot. Settles O44. -/
namespace Sys2Proof.Machine

/-! ### The class from the captured source (R110) -/

section Capture
variable {id : Identity} {c : Chan} {heard want : Source}

/-- R110, first row: it comes before the expected source is looked at. -/
theorem classFromCapture_own_slot (h : heard.slot = id.slot) : classFromCapture id c heard = .loopback := if_pos h

/-- R110, the rows after the first: the class of a token from another slot, by the expected source. -/
theorem classFromCapture_other_slot (hexp : id.expectedSource c = some want) (hown : heard.slot ≠ id.slot) :
    classFromCapture id c heard =
      if heard.slot ≠ want.slot then .wrongPeer
      else if heard.channel = want.channel then .match_
      else if heard.channel / id.lanes = want.channel / id.lanes then .laneSwap
      else .foreignPort := by
  rw [classFromCapture, if_neg hown, hexp]

theorem classFromCapture_wrong_slot (hexp : id.expectedSource c = some want) (hown : heard.slot ≠ id.slot)
    (hslot : heard.slot ≠ want.slot) : classFromCapture id c heard = .wrongPeer := by
  rw [classFromCapture_other_slot hexp hown, if_pos hslot]

/-- R110, the rows of the expected slot: the class by the channel heard. -/
theorem classFromCapture_expected_slot (hexp : id.expectedSource c = some want) (hown : heard.slot ≠ id.slot)
    (hslot : heard.slot = want.slot) :
    classFromCapture id c heard =
      if heard.channel = want.channel then .match_
      else if heard.channel / id.lanes = want.channel / id.lanes then .laneSwap
      else .foreignPort := by
  rw [classFromCapture_other_slot hexp hown, if_neg (not_not_intro hslot)]

end Capture

/-! ### The class of a channel that heard nothing (R62) -/

namespace State
variable {s : State} {c : Chan} {src : Source}

theorem silentClass_of_entry {e : PeerEntry} (hexp : s.expectedSource c = some src) (hpeer : s.peer src.slot = some e) :
    s.silentClass c = if e.announced then .silent else .noPeer := by
  simp only [silentClass, hexp, hpeer]

theorem silentClass_of_no_entry (hexp : s.expectedSource c = some src) (hpeer : s.peer src.slot = none) :
    s.silentClass c = .noPeer := by
  simp only [silentClass, hexp, hpeer]

end State
end Sys2Proof.Machine

namespace Sys2Proof.Proofs
open Sys2Proof.Machine

/-- Settles O44, row by row of R110; for a channel that heard nothing, by the Peer List entry of its expected slot. -/
theorem mappingClassesGiven : Obligations.MappingClassesGiven := by
  refine ⟨?_, ?_⟩
  · intro id c q d heard hexp
    refine ⟨classFromCapture_own_slot, fun hown hslot hchan => ?_, fun hown hslot hchan hport => ?_,
      fun hown hslot hport => ?_, classFromCapture_wrong_slot hexp⟩
    · rw [classFromCapture_expected_slot hexp hown hslot, if_pos hchan]
    · rw [classFromCapture_expected_slot hexp hown hslot, if_neg hchan, if_pos hport]
    · -- A channel of another port is not the expected channel.
      have hchan : heard.channel ≠ d := fun h => hport (congrArg (· / id.lanes) h)
      rw [classFromCapture_expected_slot hexp hown hslot, if_neg hchan, if_neg hport]
  · intro s c src hexp
    refine ⟨fun e hpeer hann => ?_, fun e hpeer hann => ?_, State.silentClass_of_no_entry hexp⟩
    · rw [State.silentClass_of_entry hexp hpeer, if_pos hann]
    · rw [State.silentClass_of_entry hexp hpeer, hann, if_neg Bool.false_ne_true]

end Sys2Proof.Proofs
end

section
/-! SUPPORT. The end of the settle delay (R119, R120): what it leaves of a record, item by item. Settles O31. -/
namespace Sys2Proof.Machine

/-- R119, R120: of a LOCKED channel the count of the stage starts if it waits; of any other channel no item changes. -/
theorem delayRecord_eq (st : Stage) (r : Channel) : delayRecord st r =
    { r with
      soak := if st = .soak ∧ r.rx.state = .locked ∧ r.soak.state = .waiting
              then { r.soak with state := .counting, n := 0, e := 0 } else r.soak
      stress := if st = .stress ∧ r.rx.state = .locked ∧ r.stress.state = .waiting
                then { r.stress with state := .counting, n := 0, e := 0 } else r.stress } := by
  by_cases hlocked : r.rx.state = .locked
  · cases st <;> simp [delayRecord, hlocked, Channel.mapCount, StageCount.start]
  · simp [delayRecord, hlocked]

section SettleDelay
variable {s : State}

/-- R119: the end of the delay in a stage. -/
theorem exec_settleDelayExpiry_stage (hrun : s.swc.settleDelay.isRunning = true) {st : Stage} (hs : s.swc.station = .inStage st) :
    exec .settleDelayExpiry s =
      .next ((s.mapSwc fun w => { w with settleDelay := .stopped }).mapInUse fun _ r => delayRecord st r) := by
  refine (if_pos hrun).trans ?_
  simp only [hs]

/-- R119: outside the stages no count is reached. -/
theorem exec_settleDelayExpiry_outside (hrun : s.swc.settleDelay.isRunning = true) (hs : ∀ st, s.swc.station ≠ .inStage st) :
    exec .settleDelayExpiry s = .next (s.mapSwc fun w => { w with settleDelay := .stopped }) := by
  refine (if_pos hrun).trans ?_
  cases hstation : s.swc.station with
  | inStage st => exact absurd hstation (hs st)
  | _ => rfl

end SettleDelay
end Sys2Proof.Machine

namespace Sys2Proof.Proofs
open Sys2Proof.Machine

/-- Settles O31: in a stage every in-use record becomes its delayRecord, outside the stages only the timer stops. -/
theorem settleDelayStartsCounts : Obligations.SettleDelayStartsCounts := by
  refine fun s hrun => ⟨fun st hs => ⟨_, exec_settleDelayExpiry_stage hrun hs, State.mapInUse_only _ _, fun c hc => ?_⟩,
    exec_settleDelayExpiry_outside hrun⟩
  rw [State.mapInUse_chan_inUse (s := s.mapSwc _) hc, State.mapSwc_chan, delayRecord_eq]

end Sys2Proof.Proofs
end

section
/-! SUPPORT. One compared bit (R121 to R123, R129, R130, R138): the count, the record of its channel, the granted point,
and the point end that comes before it. Settles O46. -/
namespace Sys2Proof.Machine

/-! ### The count (R122, R123) -/

/-- R123: the threshold by the weight that the table lists; none is listed for a count that has failed. -/
theorem countThreshold_of_listed {e w : Nat} (h : confidenceWeights[e]? = some w) (t : Nat) :
    e < failErrors ∧ countThreshold t e = w * 2 ^ (t - 2) := by
  obtain ⟨hlt, -⟩ := List.getElem?_eq_some_iff.1 h
  exact ⟨hlt, by rw [countThreshold, confidenceWeight, List.getD_eq_getElem?_getD, h, Option.getD_some]⟩

namespace StageCount
variable (t : Nat) (err : Bool) (k : StageCount)

theorem takeBit_n : (k.takeBit t err).n = k.n + 1 := by
  fun_cases takeBit t err k <;> rfl

theorem takeBit_e : (k.takeBit t err).e = if err = true then k.e + 1 else k.e := by
  fun_cases takeBit t err k <;> rfl

variable {t err k}

/-- R122: the sixteenth error. -/
theorem takeBit_failed (h : failErrors ≤ (k.takeBit t err).e) :
    (k.takeBit t err).state = .settled ∧ (k.takeBit t err).outcome = some .failed := by
  rw [takeBit_e] at h
  simp only [takeBit, ge_iff_le, if_pos h, and_self]

/-- R122: the bit that reaches the threshold. -/
theorem takeBit_met (he : (k.takeBit t err).e < failErrors)
    (h : countThreshold t (k.takeBit t err).e ≤ (k.takeBit t err).n) :
    (k.takeBit t err).state = .settled ∧ (k.takeBit t err).outcome = some .met := by
  rw [takeBit_e] at h he
  rw [takeBit_n] at h
  simp only [takeBit, ge_iff_le, if_neg (Nat.not_le.2 he), if_pos h, and_self]

/-- R122: a bit below the threshold. -/
theorem takeBit_below (he : (k.takeBit t err).e < failErrors)
    (h : (k.takeBit t err).n < countThreshold t (k.takeBit t err).e) :
    (k.takeBit t err).state = k.state ∧ (k.takeBit t err).outcome = k.outcome := by
  rw [takeBit_e] at h he
  rw [takeBit_n] at h
  simp only [takeBit, ge_iff_le, if_neg (Nat.not_le.2 he), if_neg (Nat.not_le.2 h), and_self]

end StageCount

/-! ### The record (R121, R129, R130) -/

theorem advanceReference_count? (st : Stage) (ref : BitVec 31) (r : Channel) :
    (advanceReference ref r).count? st = r.count? st := by
  cases st <;> rfl

/-- The count of a stage, as the statements pick it with its target exponent. -/
theorem Channel.count?_of_picked {st : Stage} {r r' : Channel} {k k' : StageCount} {p : Params} {t : Nat}
    (h : (st = .soak ∧ k = r.soak ∧ k' = r'.soak ∧ t = p.tSoak) ∨
      (st = .stress ∧ k = r.stress ∧ k' = r'.stress ∧ t = p.tStress)) :
    r.count? st = some k ∧ r'.count? st = some k' ∧ t = p.target st := by
  rcases h with ⟨rfl, rfl, rfl, rfl⟩ | ⟨rfl, rfl, rfl, rfl⟩ <;> exact ⟨rfl, rfl, rfl⟩

/-- R121, R122: what a compared bit leaves of the record of its channel in stage st with target exponent t. -/
def laneBitRecord (st : Stage) (t : Nat) (ref : BitVec 31) (err : Bool) (r : Channel) : Channel :=
  if r.rx.state = .locked then takeComparedBit st t err (advanceReference ref r) else advanceReference ref r

section Record
variable {st : Stage} {r : Channel} {k : StageCount} (t : Nat) (ref : BitVec 31) (err : Bool)

/-- R122, R130: the bit reaches a COUNTING count of a LOCKED channel, and an error is a fault event at its position. -/
theorem laneBitRecord_counting (hx : r.rx.state = .locked) (hk : r.count? st = some k) (hs : k.state = .counting) :
    laneBitRecord st t ref err r = { (advanceReference ref r).mapCount st (StageCount.takeBit t err) with
      snapshot := if err = true then r.snapshot <|> some { stage := st, kind := .bitError, n := k.n + 1 } else r.snapshot } := by
  rw [laneBitRecord, if_pos hx, takeComparedBit, advanceReference_count?, hk]
  simp only [if_pos hs]
  cases err
  · simp only [Bool.false_eq_true, if_false]
    cases st <;> rfl
  · simp only [if_true, Channel.noteFault_outcome, Channel.mapCount_snapshot, advanceReference_snapshot]

/-- R122: the count that the bit reaches. -/
theorem laneBitRecord_count? (hx : r.rx.state = .locked) (hk : r.count? st = some k) (hs : k.state = .counting) :
    (laneBitRecord st t ref err r).count? st = some (k.takeBit t err) := by
  rw [laneBitRecord_counting t ref err hx hk hs]
  refine Eq.trans ?_ (congrArg (Option.map (StageCount.takeBit t err)) hk)
  cases st <;> rfl

/-- R121: with no such count only the reference moves. -/
theorem laneBitRecord_not_counting (h : ∀ k, r.count? st = some k → ¬(r.rx.state = .locked ∧ k.state = .counting)) :
    laneBitRecord st t ref err r = advanceReference ref r := by
  unfold laneBitRecord
  split
  case isFalse => rfl
  case isTrue hx =>
    rw [takeComparedBit, advanceReference_count?]
    split
    · rename_i k hk
      rw [if_neg fun hs => h k hk ⟨hx, hs⟩]
    · rfl

variable (st r)

/-- The two answers of a compared bit. -/
theorem laneBitRecord_cases : laneBitRecord st t ref err r = advanceReference ref r ∨
    ∃ k snapshot, r.count? st = some k ∧ laneBitRecord st t ref err r =
      { (advanceReference ref r).mapCount st (StageCount.takeBit t err) with snapshot := snapshot } := by
  by_cases h : ∃ k, r.count? st = some k ∧ r.rx.state = .locked ∧ k.state = .counting
  · obtain ⟨k, hk, hx, hs⟩ := h
    exact .inr ⟨k, _, hk, laneBitRecord_counting t ref err hx hk hs⟩
  · exact .inl (laneBitRecord_not_counting t ref err fun k hk hrun => h ⟨k, hk, hrun⟩)

/-- R121: the items that a compared bit reaches in no case but by the reference. -/
theorem laneBitRecord_items : (laneBitRecord st t ref err r).static = r.static ∧ (laneBitRecord st t ref err r).tx = r.tx ∧
    (laneBitRecord st t ref err r).ident = r.ident ∧ (laneBitRecord st t ref err r).scan = r.scan ∧
    (laneBitRecord st t ref err r).rx = { r.rx with reference := some (advancePattern ref) } := by
  rcases laneBitRecord_cases st r t ref err with h | ⟨k, snapshot, -, h⟩
  · rw [h]
    exact ⟨rfl, rfl, rfl, rfl, rfl⟩
  · rw [h]
    cases st <;> exact ⟨rfl, rfl, rfl, rfl, rfl⟩

variable {st}

theorem laneBitRecord_soak_other (h : st ≠ .soak) : (laneBitRecord st t ref err r).soak = r.soak := by
  rcases laneBitRecord_cases st r t ref err with e | ⟨k, snapshot, -, e⟩
  · rw [e, advanceReference_soak]
  · rw [e, Channel.mapCount_soak, if_neg h, advanceReference_soak]

theorem laneBitRecord_stress_other (h : st ≠ .stress) : (laneBitRecord st t ref err r).stress = r.stress := by
  rcases laneBitRecord_cases st r t ref err with e | ⟨k, snapshot, -, e⟩
  · rw [e, advanceReference_stress]
  · rw [e, Channel.mapCount_stress, if_neg h, advanceReference_stress]

/-- A stage without a count writes no snapshot. -/
theorem laneBitRecord_snapshot_other (h1 : st ≠ .soak) (h2 : st ≠ .stress) :
    (laneBitRecord st t ref err r).snapshot = r.snapshot := by
  rcases laneBitRecord_cases st r t ref err with e | ⟨k, snapshot, hk, -⟩
  · rw [e, advanceReference_snapshot]
  · cases st with
    | soak => exact absurd rfl h1
    | stress => exact absurd rfl h2
    | _ => cases hk

end Record

/-! ### The granted point (R138) -/

section Point
variable {m : Emn} {g : Grant} {c : Chan} {p : Nat}

theorem Emn.takeBit_granted (hg : m.grant = some g) (hc : g.channel = c) (hb : g.bits < 2 ^ p) (differs : Bool) :
    m.takeBit p c differs = { m with grant := some { g with bits := g.bits + 1, disagreed := g.disagreed || differs } } := by
  simp only [takeBit, hg, if_pos (And.intro hc hb)]

theorem Emn.takeBit_not_granted (h : ∀ g, m.grant = some g → g.channel ≠ c) (p : Nat) (differs : Bool) :
    m.takeBit p c differs = m := by
  unfold takeBit
  split
  · rename_i g hg
    exact if_neg fun hcb => h g hg hcb.1
  · rfl

end Point

/-! ### The command -/

namespace State
variable {s : State} {c : Chan}

/-- Changes that agree on the record held are one change. -/
theorem mapChan_congr {f g : Channel → Channel} (h : f (s.chan c) = g (s.chan c)) : s.mapChan c f = s.mapChan c g := by
  simp only [mapChan, h]

/-- R121, R122: in a stage a compared bit changes the record of its channel alone. -/
theorem takeLaneBit_of_stage {st : Stage} {ref : BitVec 31} {received err : Bool} (hs : s.swc.station = .inStage st)
    (herr : err = ((s.chan c).rx.polarity.takeBit received != nextPatternBit ref)) :
    s.takeLaneBit c ref received = s.mapChan c (laneBitRecord st (s.swc.params.target st) ref err) := by
  simp only [takeLaneBit, hs, ← herr]
  split
  · rename_i hx
    rw [mapChan_mapChan]
    exact mapChan_congr (if_pos hx).symm
  · rename_i hx
    exact mapChan_congr (if_neg hx).symm

/-- R121, R138: a bit that a seeded receiver following the lane compares, with no point of the lane over. -/
theorem exec_comparedBit_following {ref : BitVec 31} (href : (s.chan c).rx.reference = some ref)
    (hx : (s.chan c).rx.state.following = true)
    (hb : ∀ g, s.emn.grant = some g → g.channel = c → g.bits < 2 ^ s.swc.params.p) (received monitor : Bool) :
    exec (.comparedBit c received monitor) s =
      .next (finish s ((s.takeLaneBit c ref received).mapEmn (Emn.takeBit s.swc.params.p c (received != monitor)))) := by
  have hpoint : s.endPointOf c = s := endPointOf_early fun g hg hc => (hb g hg hc).ne
  simp only [exec, execComparedBit, hpoint, takeCompared, href, if_pos hx]

/-- R138: a point that is over ends with the next bit of its lane if it has not ended before. -/
theorem exec_comparedBit_after_pointEnd {g : Grant} (hg : s.emn.grant = some g) (hb : g.bits = 2 ^ s.swc.params.p)
    (received monitor : Bool) : exec (.comparedBit g.channel received monitor) s =
      exec (.comparedBit g.channel received monitor) (s.takePoint g !g.disagreed) := by
  simp only [exec, execComparedBit, endPointOf_taken, endPointOf_granted hg, endPoint_due hg hb]

end State
end Sys2Proof.Machine

namespace Sys2Proof.Proofs
open Sys2Proof.Machine

/-- Settles O46: the record becomes its laneBitRecord and the monitor takes the bit; a point that is over has ended before. -/
theorem comparedBitsTaken : Obligations.ComparedBitsTaken := by
  refine ⟨?_, ?_⟩
  · rintro s t c g d received monitor hg rfl hb ht
    rw [State.exec_pointEnd_due hg hb] at ht
    cases ht
    exact State.exec_comparedBit_after_pointEnd hg hb received monitor
  · rintro s c st r ref received monitor err rfl hs href hx herr hb
    have hexec := State.exec_comparedBit_following href hx hb received monitor
    rw [State.takeLaneBit_of_stage hs herr] at hexec
    obtain ⟨hstatic, htx, hident, hscan, hrx⟩ := laneBitRecord_items st (s.chan c) (s.swc.params.target st) ref err
    refine ⟨_, _, _, hexec, State.mapChan_mapEmn_only c _ _ s, hstatic, htx, hident, hscan, hrx, fun k k' t hpick => ?_,
      laneBitRecord_soak_other _ _ _ _, laneBitRecord_stress_other _ _ _ _, laneBitRecord_snapshot_other _ _ _ _,
      fun g hg hc => Emn.takeBit_granted hg hc (hb g hg hc) _, fun h => Emn.takeBit_not_granted h _ _⟩
    obtain ⟨hk, hk', rfl⟩ := Channel.count?_of_picked hpick
    refine ⟨fun hlocked hcounting => ?_, fun hnot => ?_⟩
    · rw [laneBitRecord_count? _ ref _ hlocked hk hcounting] at hk'
      cases hk'
      refine ⟨StageCount.takeBit_n _ _ k, StageCount.takeBit_e _ _ k, StageCount.takeBit_failed, fun w hw => ?_,
        congrArg Channel.snapshot (laneBitRecord_counting _ ref _ hlocked hk hcounting)⟩
      obtain ⟨he, hthreshold⟩ := countThreshold_of_listed hw (s.swc.params.target st)
      rw [← hthreshold, ← hcounting]
      exact ⟨StageCount.takeBit_met he, StageCount.takeBit_below he⟩
    · have hmoved := laneBitRecord_not_counting (s.swc.params.target st) ref err fun x hcount hrun =>
        hnot (Option.some.inj (hk.symm.trans hcount) ▸ hrun)
      rw [hmoved] at hk' ⊢
      rw [advanceReference_count?, hk] at hk'
      exact ⟨(Option.some.inj hk').symm, rfl⟩

end Sys2Proof.Proofs
end

section
/-! SUPPORT. The eye monitor's scans and its arbiter (R134, R138, R144 to R146, R151, R152): what the end of a scan's point leads to, how
a scan settles, the ranges of the figures, and the answers of a grant decision. Settles O48, O49 and O50. -/
namespace Sys2Proof.Machine

/-! ### The steps of a scan (R144) -/

/-- R144: a point's number within its step is read off its setting; the origin is the only point of its step. -/
theorem ScanStep.index_point {st : ScanStep} (h : st ≠ .origin) (k : Nat) : st.index (st.point k) = k := by
  cases st with
  | origin => exact absurd rfl h
  | right => exact Int.natAbs_natCast k
  | upA => exact Int.natAbs_natCast k
  | upB => exact Int.natAbs_natCast k
  | left => exact (Int.natAbs_neg _).trans (Int.natAbs_natCast k)
  | downA => exact (Int.natAbs_neg _).trans (Int.natAbs_natCast k)
  | downB => exact (Int.natAbs_neg _).trans (Int.natAbs_natCast k)

theorem scanNextStep_of_next {st st' : ScanStep} (h : st.next = some st') (rd : ScanReadings) :
    scanNextStep st rd = .point st' rd (st'.point 1) := by
  simp only [scanNextStep, h]

section Move
variable {st : ScanStep} {rd : ScanReadings} {pt : EyePoint}

/-- R144: the steps after the origin end their points alike. -/
theorem scanMove_after_origin (h : st ≠ .origin) (isOpen : Bool) : scanMove st rd pt isOpen =
    if isOpen then
      if st.index pt < st.last then .point st rd (st.point (st.index pt + 1)) else scanNextStep st (rd.put st (st.index pt))
    else scanNextStep st (rd.put st (st.index pt - 1)) := by
  cases st with
  | origin => exact absurd rfl h
  | _ => rfl

theorem scanMove_open (h : st ≠ .origin) (hk : st.index pt < st.last) :
    scanMove st rd pt true = .point st rd (st.point (st.index pt + 1)) := by
  rw [scanMove_after_origin h, if_pos rfl, if_pos hk]

theorem scanMove_open_last (h : st ≠ .origin) (hk : st.last ≤ st.index pt) :
    scanMove st rd pt true = scanNextStep st (rd.put st (st.index pt)) := by
  rw [scanMove_after_origin h, if_pos rfl, if_neg (Nat.not_lt.2 hk)]

theorem scanMove_closed (h : st ≠ .origin) :
    scanMove st rd pt false = scanNextStep st (rd.put st (st.index pt - 1)) := by
  rw [scanMove_after_origin h, if_neg Bool.false_ne_true]

/-- R144, R145: DOWN_B has no step after it, so its last point, open or closed, completes the scan. -/
theorem scanMove_downB_last {isOpen : Bool} (h : isOpen = true → ScanStep.downB.last ≤ ScanStep.downB.index pt) :
    scanMove .downB rd pt isOpen = .complete (rd.put .downB
      (if isOpen = true then ScanStep.downB.index pt else ScanStep.downB.index pt - 1)).figures := by
  cases isOpen with
  | false => exact scanMove_closed (by decide)
  | true => exact scanMove_open_last (by decide) (h rfl)

end Move

/-! ### The figures (R145) -/

/-- R145: a quotient by 4 rounded toward zero. -/
theorem tdiv_four_toward_zero (a : Int) : (0 ≤ a → 4 * a.tdiv 4 ≤ a ∧ a < 4 * a.tdiv 4 + 4) ∧
    (a ≤ 0 → a ≤ 4 * a.tdiv 4 ∧ 4 * a.tdiv 4 < a + 4) := by
  constructor <;> intro ha
  case left =>
    rw [Int.tdiv_eq_ediv_of_nonneg ha]
    omega
  case right =>
    have hfloor := Int.tdiv_eq_ediv_of_nonneg (b := 4) (Int.neg_nonneg.2 ha)
    rw [Int.neg_tdiv] at hfloor
    omega

/-- R145: 62 / 4 = 15.5 rounds to 15. -/
theorem tdiv_four_range {a : Int} (hlow : -62 ≤ a) (hhigh : a ≤ 62) : -15 ≤ a.tdiv 4 ∧ a.tdiv 4 ≤ 15 := by
  obtain ⟨hnonneg, hnonpos⟩ := tdiv_four_toward_zero a
  omega

/-- R145: the figures of six readings in their ranges. -/
theorem ScanReadings.figures_range {r l ua da ub db : Nat} (hr : 1 ≤ r) (hr' : r ≤ 32) (hl : l ≤ 32) (hua : ua ≤ 31)
    (hda : da ≤ 31) (hub : ub ≤ 31) (hdb : db ≤ 31) {f : ScanFigures} (hf : f = ScanReadings.figures
      { r := some r, l := some l, upA := some ua, downA := some da, upB := some ub, downB := some db }) :
    1 ≤ f.w ∧ f.w ≤ 64 ∧ 1 ≤ f.h ∧ f.h ≤ 63 ∧ -15 ≤ f.o ∧ f.o ≤ 15 ∧ -15 ≤ f.c ∧ f.c ≤ 15 := by
  subst hf
  have hh : (ua + da + ub + db) / 2 + 1 ≤ 63 := by omega
  obtain ⟨ho, ho'⟩ := tdiv_four_range (a := ((ub : Int) - ua) - ((db : Int) - da)) (by omega) (by omega)
  obtain ⟨hc, hc'⟩ := tdiv_four_range (a := ((ua : Int) + ub) - ((da : Int) + db)) (by omega) (by omega)
  exact ⟨Nat.le_add_left_of_le hr, Nat.add_le_add hl hr', Nat.le_add_left 1 _, hh, ho, ho', hc, hc'⟩

/-! ### The end of a scan's point (R138, R146) -/

namespace State
variable {s : State} {g : Grant}

section Scan
variable {st : ScanStep} {rd : ScanReadings} {isOpen : Bool}

theorem takePoint_scan_point {st' : ScanStep} {rd' : ScanReadings} {pt : EyePoint} (hp : g.procedure = .scan st rd)
    (hm : scanMove st rd g.point isOpen = .point st' rd' pt) :
    s.takePoint g isOpen = s.startPoint g.channel (.scan st' rd') pt := by
  simp only [takePoint, hp, hm]

theorem takePoint_scan_closed (hp : g.procedure = .scan st rd) (hm : scanMove st rd g.point isOpen = .closed) :
    s.takePoint g isOpen = s.endScan g.channel .closed none := by
  simp only [takePoint, hp, hm]

theorem takePoint_scan_complete {figs : ScanFigures} (hp : g.procedure = .scan st rd)
    (hm : scanMove st rd g.point isOpen = .complete figs) :
    s.takePoint g isOpen = s.endScan g.channel .complete (some figs) := by
  simp only [takePoint, hp, hm]

end Scan

/-- R146, R151: the scan of the channel settles and the monitor is FREE before the grant decision. -/
theorem endScan_outcome (c : Chan) (o : ScanOutcome) (figs : Option ScanFigures) (s : State) :
    ∃ u, s.endScan c o figs = finish s u.arbitrate ∧ s.ChanAndMonitor c { s.chan c with scan := { (s.chan c).scan with
      state := .settled, outcome := some o, figures := figs } } { s.emn with grant := none } u :=
  ⟨_, rfl, mapChan_mapEmn_only c _ Emn.free s⟩

/-! ### The grant decision (R151, R152) -/

section Grants
variable {c : Chan} {cs : List Chan}

/-- R151: a busy monitor decides nothing. -/
theorem arbitrate_busy (h : s.emn.grant ≠ none) : s.arbitrate = s := by
  obtain ⟨g, hg⟩ := Option.ne_none_iff_exists'.1 h
  simp only [arbitrate, hg]

/-- R151: with nothing pending there is no decision. -/
theorem arbitrate_no_request (hp : s.emn.spotPending = []) (hq : s.emn.scanQueue = []) : s.arbitrate = s := by
  cases hg : s.emn.grant with
  | some g => exact arbitrate_busy (by simp [hg])
  | none => simp only [arbitrate, hg, hp, hq]

/-- R152, case 1. -/
theorem arbitrate_grants_spot (hg : s.emn.grant = none) (hp : s.emn.spotPending = c :: cs) (hk : s.emn.skip < skipLimit) :
    s.arbitrate = (s.mapEmn fun m => { m with
        grant := some (grantAt c (.spot none) spotFirstPoint), spotPending := cs
        skip := if s.emn.scanQueue = [] then m.skip else m.skip + 1 }).mapChan c
      fun r => { r with rx := { r.rx with state := .spotRun } } := by
  simp only [arbitrate, hg, hp, decide_eq_true hk]

/-- R152, case 2. -/
theorem arbitrate_grants_scan (hg : s.emn.grant = none) (h : s.emn.spotPending = [] ∨ skipLimit ≤ s.emn.skip)
    (hq : s.emn.scanQueue = c :: cs) :
    s.arbitrate = (s.mapEmn fun m => { m with
        grant := some (grantAt c (.scan .origin .none) scanOrigin), scanQueue := cs, skip := 0 }).mapChan c
      fun r => { r with scan := { r.scan with state := .granted, attempts := r.scan.attempts + 1 } } := by
  rcases h with hp | hk
  · simp only [arbitrate, hg, hp, hq]
  · have hfull : decide (s.emn.skip < skipLimit) = false := decide_eq_false (Nat.not_lt.2 hk)
    cases hp : s.emn.spotPending <;> simp only [arbitrate, hg, hp, hq, hfull]

end Grants
end State
end Sys2Proof.Machine

namespace Sys2Proof.Proofs
open Sys2Proof.Machine

/-- Settles O48: the move of the scan decides between the next point and the settling. -/
theorem scanPointsEnd : Obligations.ScanPointsEnd := by
  rintro s g d isOpen step rd c hg rfl hb hp rfl
  have hnext := State.exec_pointEnd_due hg hb d
  refine ⟨fun step' rd' pt hmoves => ?_, fun horigin hclosed => ?_, fun hdownB hlast => ?_⟩
  · have hmove : scanMove step rd g.point (!g.disagreed) = .point step' rd' pt := by
      rcases hmoves with ⟨rfl, hopen, rfl, rfl, rfl⟩ | ⟨hne, hopen, hk, rfl, rfl, rfl⟩ | ⟨hne, hopen, hk, hstep, rfl, rfl⟩ |
        ⟨hne, hclosed, hstep, rfl, rfl⟩
      · rw [hopen]; rfl
      · rw [hopen, scanMove_open hne hk]
      · rw [hopen, scanMove_open_last hne hk, scanNextStep_of_next hstep]
      · rw [hclosed, scanMove_closed hne, scanNextStep_of_next hstep]
    rw [hnext, State.takePoint_scan_point hp hmove]
    rfl
  · subst horigin
    have hmove : scanMove .origin rd g.point (!g.disagreed) = .closed := by rw [hclosed]; rfl
    rw [hnext, State.takePoint_scan_closed hp hmove]
    obtain ⟨u, hfinish, honly⟩ := State.endScan_outcome g.channel .closed none s
    exact ⟨u, congrArg _ hfinish, honly⟩
  · subst hdownB
    rw [hnext, State.takePoint_scan_complete hp (scanMove_downB_last hlast)]
    obtain ⟨u, hfinish, honly⟩ := State.endScan_outcome g.channel .complete _ s
    exact ⟨u, congrArg _ hfinish, honly⟩

/-- Settles O49: the steps are the definitions' rows; the figures follow from the rounding of a quotient by 4. -/
theorem scanStepsAndFigures : Obligations.ScanStepsAndFigures := by
  refine ⟨fun k n rd => ?_, ?_⟩
  · have hindex : ∀ st : ScanStep, st ≠ .origin → st.index (st.point k) = k := fun st h => ScanStep.index_point h k
    exact ⟨rfl, rfl, rfl, rfl, rfl, rfl, hindex, rfl, rfl, rfl, rfl, rfl, rfl, rfl, rfl, rfl, rfl, rfl, rfl,
      rfl, rfl, rfl, rfl, rfl, rfl⟩
  · intro r l ua da ub db f hf
    refine ⟨by rw [hf]; rfl, by rw [hf]; rfl, ⟨_, rfl, ?_⟩, ⟨_, rfl, ?_⟩, fun hr hr' hl hua hda hub hdb =>
      ScanReadings.figures_range hr hr' hl hua hda hub hdb hf⟩
    all_goals
      rw [hf]
      exact tdiv_four_toward_zero _

/-- Settles O50: the answers of R152, each a change of one record and the monitor. -/
theorem grantDecision : Obligations.GrantDecision := by
  refine fun s => ⟨State.arbitrate_busy, State.arbitrate_no_request, fun c cs hg hp hk => ?_, fun c cs hg h hq => ?_⟩
  · rw [State.arbitrate_grants_spot hg hp hk]
    exact State.mapEmn_mapChan_only c _ _ s
  · rw [State.arbitrate_grants_scan hg h hq]
    exact State.mapEmn_mapChan_only c _ _ s

end Sys2Proof.Proofs
end

section
/-! SUPPORT. A RECALL and the frame engine's receiver and start of a frame (R161 to R163, R167, R171). Settles O16 and O17. -/
namespace Sys2Proof.Machine

/-! ### What a RECALL queues -/

/-- R163: the picked entries are the LANEREPs of the channels not queued yet, all of them for a count of 0. -/
theorem recallPick_recallLimit (q : List Entry) (count : Byte) {cs wanted : List Chan}
    (h : cs.filter (fun c => !(q.contains (.lanerep c))) = wanted) :
    recallPick q (recallLimit count) cs = (if count = 0 then wanted else wanted.take count.toNat).map .lanerep := by
  subst h
  by_cases hz : count = 0
  · have hlimit : recallLimit count = none := if_pos hz
    rw [hlimit, recallPick_none, if_pos hz]
  · have hlimit : recallLimit count = some count.toNat := if_neg hz
    rw [hlimit, recallPick_some, if_neg hz]

/-- A SLOTREP joins a queue that has grown by LANEREPs exactly if the queue had none before. -/
theorem enqueue_slotrep_after_lanereps (q : List Entry) (cs : List Chan) :
    enqueue (q ++ cs.map .lanerep) .slotrep = q ++ cs.map .lanerep ++ if Entry.slotrep ∈ q then [] else [.slotrep] := by
  have hmem : Entry.slotrep ∈ q ++ cs.map Entry.lanerep ↔ Entry.slotrep ∈ q := by simp
  by_cases h : Entry.slotrep ∈ q
  · rw [enqueue, if_pos (hmem.2 h), if_pos h, List.append_nil]
  · rw [enqueue, if_neg (mt hmem.1 h), if_neg h]

namespace State

@[simp] theorem afterFrame_queue (s : State) : s.afterFrame.cfe.queue = s.cfe.queue := rfl
@[simp] theorem afterFrame_inUseChans (s : State) : s.afterFrame.inUseChans = s.inUseChans := rfl
@[simp] theorem afterFrame_ownSlot (s : State) : s.afterFrame.ownSlot = s.ownSlot := rfl

/-- R163: the in-use channels of the set that are not queued, in one pass over the channels. -/
theorem inUseChans_filter_recallWants (f : RecallFields) (s : State) :
    ((s.inUseChans.filter (recallWants f)).filter fun c => !(s.cfe.queue.contains (.lanerep c))) =
      (List.finRange 32).filter
        (fun c => s.inUse c && f.channels.getLsbD c.val && !(s.cfe.queue.contains (.lanerep c))) := by
  rw [inUseChans, List.filter_filter, List.filter_filter]
  refine List.filter_congr fun c _ => ?_
  rw [recallWants, Bool.and_comm, Bool.and_comm (!_), Bool.and_assoc]

/-- R163: the queue after a RECALL that addresses the station. -/
theorem fillFromRecall_outcome {f : RecallFields} {s : State} {wanted taken : List Chan}
    (hw : (s.inUseChans.filter (recallWants f)).filter (fun c => !(s.cfe.queue.contains (.lanerep c))) = wanted)
    (ht : taken = if f.count = 0 then wanted else wanted.take f.count.toNat) :
    s.fillFromRecall f = { s with cfe := { s.cfe with
      queue := s.cfe.queue ++ taken.map .lanerep ++
        (if f.summary.getLsbD 0 = true ∧ Entry.slotrep ∉ s.cfe.queue then [.slotrep] else []) } } := by
  have hpick := recallPick_recallLimit s.cfe.queue f.count hw
  rw [← ht] at hpick
  rw [fillFromRecall, hpick, recallWantsSummary, enqueue_slotrep_after_lanereps]
  cases hsum : f.summary.getLsbD 0 with
  | false => simp [mapCfe]
  | true => by_cases hq : Entry.slotrep ∈ s.cfe.queue <;> simp [mapCfe, hq]

theorem takeRecall_addressed {f : RecallFields} {s : State} (hs : s.swc.station = .done)
    (ha : recallAddresses f s.ownSlot = true) : s.takeRecall f = s.fillFromRecall f := if_pos ⟨hs, ha⟩

theorem takeRecall_ignored {f : RecallFields} {s : State}
    (h : s.swc.station ≠ .done ∨ recallAddresses f s.ownSlot = false) : s.takeRecall f = s :=
  if_neg fun ⟨hs, ha⟩ => h.elim (· hs) fun hn => Bool.noConfusion (hn.symm.trans ha)

end State

/-! ### The receiver and the start of a frame -/

/-- R167: the cause of a drop makes no difference. -/
theorem execFrameDrop_eq (d : DropCause) (s : State) : execFrameDrop d s =
    if s.swc.station ≠ .reset ∧ s.cfe.receiver = .frame ∧ s.cfe.onLine = none then
      .next (s.mapCfe fun f => { f with receiver := .waitIdle })
    else .next s := by
  cases d <;> rfl

theorem execFrameStart_empty {s : State} (h : s.cfe.queue = []) : execFrameStart s = .next s := by
  simp only [execFrameStart, h]

theorem execFrameStart_head {s : State} {e : Entry} {q : List Entry} (h : s.cfe.queue = e :: q) : execFrameStart s =
    if s.swc.station ≠ .reset ∧ s.cfe.receiver = .idle ∧ s.cfe.onLine = none then
      .next (s.mapCfe fun f =>
        { f with receiver := .frame, onLine := some { entry := e, bytes := buildFrame s e, dropOnLoss := false } })
    else .next s := by
  simp only [execFrameStart, h]

/-- R161, R166, R167: no frame starts in RESET or before the receiver is IDLE, whatever the queue holds. -/
theorem execFrameStart_blocked {s : State} (h : s.swc.station = .reset ∨ s.cfe.receiver ≠ .idle) :
    execFrameStart s = .next s := by
  cases hq : s.cfe.queue with
  | nil => exact execFrameStart_empty hq
  | cons e q =>
    rw [execFrameStart_head hq]
    exact if_neg fun ⟨hs, hr, _⟩ => h.elim hs (· hr)

end Sys2Proof.Machine

namespace Sys2Proof.Proofs
open Sys2Proof.Machine

/-- Settles O16: an accepted RECALL is taken after the end of its frame; the addressed station in DONE fills its queue. -/
theorem recallFillsQueue : Obligations.RecallFillsQueue := by
  intro src f s addressed hsrc hr haddressed
  have haddr : recallAddresses f s.ownSlot = addressed :=
    Bool.eq_iff_iff.2 ((recallAddresses_iff f s.ownSlot).trans haddressed.symm)
  have htaken : s.swc.station ≠ .reset → exec (.recallFrame src f) s = .next (s.afterFrame.takeRecall f) :=
    fun hs => receive_taken hs hr (srcOk_of_le hsrc)
  refine ⟨fun hs ha => ⟨_, _, rfl, rfl, ?_⟩, fun hs ha => ?_, fun hs hn => ?_⟩
  · rw [htaken (by simp [hs]), State.takeRecall_addressed (s := s.afterFrame) hs (haddr.trans ha)]
    exact congrArg _ (State.fillFromRecall_outcome (State.inUseChans_filter_recallWants f s.afterFrame) rfl)
  · rw [htaken (by simp [hs]), State.takeRecall_ignored (s := s.afterFrame) (.inr (haddr.trans ha))]
  · rw [htaken hn, State.takeRecall_ignored (s := s.afterFrame) (.inl hs)]

/-- Settles O17: each command acts under its receiver state alone, and FRAME_START on the head entry of the queue. -/
theorem receiverAndFrameStart : Obligations.ReceiverAndFrameStart := by
  refine ⟨fun s hs => ⟨fun hr => if_pos ⟨hs, hr⟩, fun hr => if_neg fun h => hr h.2, fun hr => if_pos ⟨hs, hr⟩,
    fun hr => if_neg fun h => hr h.2, fun d hr hl => ?_, fun d hr => ?_⟩, fun s e q hs hr hl hq => ?_, fun s h => ?_⟩
  · exact (execFrameDrop_eq d s).trans (if_pos ⟨hs, hr, hl⟩)
  · exact (execFrameDrop_eq d s).trans (if_neg fun ⟨_, hf, _⟩ => hr hf)
  · refine (execFrameStart_head hq).trans ((if_pos ⟨hs, hr, hl⟩).trans ?_)
    rw [← hq]
    rfl
  · exact h.elim execFrameStart_empty execFrameStart_blocked

end Sys2Proof.Proofs
end

section
/-! SUPPORT. The channel and slot verdicts and the lamps (R154 to R158): each check as the statements write it, and the verdict step by
step. Settles O51 and O52. -/
namespace Sys2Proof.Machine
namespace Channel

variable {r : Channel} {p : Params}

/-! ### The items of R155 and R156 -/

theorem excused_iff : r.excused = true ↔ r.ident.cls = some .noPeer ∧ r.static.cls = some .openPair := by
  simp [excused]

theorem staticFails_iff : r.staticFails = true ↔ r.static.cls = some .openPair ∨ r.static.cls = some .shortLow ∨
    r.static.cls = some .shortHigh ∨ r.static.cls = some .unstable := by
  unfold staticFails
  cases r.static.cls with
  | none => simp
  | some k => cases k <;> simp

theorem classFails_iff : r.classFails = true ↔ r.ident.cls = some .laneSwap ∨ r.ident.cls = some .foreignPort ∨
    r.ident.cls = some .wrongPeer ∨ r.ident.cls = some .loopback ∨ r.ident.cls = some .unstable ∨
    r.ident.cls = some .undecoded ∨ r.ident.cls = some .silent ∨ r.ident.cls = some .noPeer := by
  unfold classFails
  cases r.ident.cls with
  | none => simp
  | some k => cases k <;> simp

theorem outcomeFails_iff (o : Option CountOutcome) : outcomeFails o = true ↔
    o = some .failed ∨ o = some .lost ∨ o = some .undersampled ∨ o = some .notRun := by
  cases o with
  | none => simp [outcomeFails]
  | some k => cases k <;> simp [outcomeFails]

theorem scanFails_iff (sc : Scan) : scanFails p sc = true ↔
    sc.outcome = some .closed ∨ sc.outcome = some .aborted ∨ sc.outcome = some .notRun ∨
      (sc.outcome = some .complete ∧ ∃ f, sc.figures = some f ∧ (f.w < p.wMin ∨ f.h < p.hMin)) := by
  unfold scanFails
  cases sc.outcome with
  | none => simp
  | some k =>
    cases k with
    | complete => cases sc.figures <;> simp
    | _ => simp

theorem classUntested_iff (o : Option MappingClass) : classUntested o = true ↔ o = some .untested ∨ o = none := by
  cases o with
  | none => simp [classUntested]
  | some k => cases k <;> simp [classUntested]

theorem outcomeUntested_iff (o : Option CountOutcome) : outcomeUntested o = true ↔
    o = some .halted ∨ o = some .untested ∨ o = none := by
  cases o with
  | none => simp [outcomeUntested]
  | some k => cases k <;> simp [outcomeUntested]

theorem scanUntested_iff (o : Option ScanOutcome) : scanUntested o = true ↔
    o = some .cut ∨ o = some .untested ∨ o = none := by
  cases o with
  | none => simp [scanUntested]
  | some k => cases k <;> simp [scanUntested]

/-- A property of one of the two counts. -/
theorem exists_count_iff {q : StageCount → Prop} : (∃ k, (k = r.soak ∨ k = r.stress) ∧ q k) ↔ q r.soak ∨ q r.stress := by
  simp [or_and_right, exists_or]

/-! ### The verdict (R154) -/

/-- R155. -/
theorem fails_iff : r.fails p = true ↔
    r.staticFails = true ∨ r.static.bridged = true ∨ r.classFails = true ∨ r.rx.invertedFlag = true ∨ r.ident.duplicate = true ∨
      r.ident.sourceChanged = true ∨ r.rx.deadFlag = true ∨
      (outcomeFails r.soak.outcome = true ∨ outcomeFails r.stress.outcome = true) ∨ scanFails p r.scan = true := by
  simp only [fails, Bool.or_eq_true, or_assoc]

/-- R156. -/
theorem untested_iff : r.untested = true ↔
    r.static.cls = none ∨ classUntested r.ident.cls = true ∨
      (outcomeUntested r.soak.outcome = true ∨ outcomeUntested r.stress.outcome = true) ∨ scanUntested r.scan.outcome = true := by
  simp only [untested, Bool.or_eq_true, beq_iff_eq, or_assoc]

theorem verdict_excused (h : r.excused = true) : r.verdict p = .excused := if_pos h

theorem verdict_fail (he : ¬r.excused = true) (hf : r.fails p = true) : r.verdict p = .fail := by
  rw [verdict, if_neg he, if_pos hf]

theorem verdict_untested (he : ¬r.excused = true) (hf : ¬r.fails p = true) (hu : r.untested = true) :
    r.verdict p = .untested := by
  rw [verdict, if_neg he, if_neg hf, if_pos hu]

theorem verdict_pass (he : ¬r.excused = true) (hf : ¬r.fails p = true) (hu : ¬r.untested = true) : r.verdict p = .pass := by
  rw [verdict, if_neg he, if_neg hf, if_neg hu]

end Channel

/-! ### The slot verdict (R157) -/

namespace State

variable {s : State}

theorem any_channelVerdict_iff (v : ChannelVerdict) : (s.inUseChans.any fun c => s.channelVerdict c == v) = true ↔
    ∃ c, s.inUse c = true ∧ (s.chan c).verdict s.swc.params = v := by
  simp [channelVerdict]

/-- R157: what makes the slot FAIL, but for BARRED. -/
theorem slotFails_iff : (s.inUseChans.any (fun c => s.channelVerdict c == .fail) || s.swc.flags.slotConflict) = true ↔
    (∃ c, s.inUse c = true ∧ (s.chan c).verdict s.swc.params = .fail) ∨ s.swc.flags.slotConflict = true := by
  rw [Bool.or_eq_true, any_channelVerdict_iff]

/-- R157: what makes the slot INCOMPLETE, but for BARRED and FAIL. -/
theorem slotIncomplete_iff :
    (s.swc.haltReason != .none || s.inUseChans.any (fun c => s.channelVerdict c == .untested)) = true ↔
      s.swc.haltReason ≠ .none ∨ ∃ c, s.inUse c = true ∧ (s.chan c).verdict s.swc.params = .untested := by
  rw [Bool.or_eq_true, bne_iff_ne, any_channelVerdict_iff]

/-- R157: the slot verdict's order, with its two conditions named fail and untested. -/
theorem slotVerdict_of_not_barred {fail untested : Prop} (hb : s.barred = false)
    (hf : fail ↔ (∃ c, s.inUse c = true ∧ (s.chan c).verdict s.swc.params = .fail) ∨ s.swc.flags.slotConflict = true)
    (hu : untested ↔ s.swc.haltReason ≠ .none ∨ ∃ c, s.inUse c = true ∧ (s.chan c).verdict s.swc.params = .untested) :
    (fail → s.slotVerdict = .fail) ∧ (¬fail → untested → s.slotVerdict = .incomplete) ∧
      (¬fail → ¬untested → s.slotVerdict = .pass) := by
  rw [← slotFails_iff] at hf
  rw [← slotIncomplete_iff] at hu
  rw [slotVerdict, if_neg (by simp [hb])]
  refine ⟨fun h => if_pos (hf.1 h), fun h h' => ?_, fun h h' => ?_⟩
  · rw [if_neg (mt hf.2 h), if_pos (hu.1 h')]
  · rw [if_neg (mt hf.2 h), if_neg (mt hu.2 h')]

theorem slotVerdict_of_barred (hb : s.barred = true) : s.slotVerdict = .barred := if_pos hb

/-! ### The lamps (R158) -/

theorem lampPatterns_reset (h : s.swc.station = .reset) : s.lampPatterns = (.off, .off) := by
  simp only [lampPatterns, h]

theorem lampPatterns_listen (h : s.swc.station = .listen) :
    s.lampPatterns = (.off, if s.swc.foreignSweep then .blink .oneHz else .off) := by
  simp only [lampPatterns, h]

theorem lampPatterns_barred (h : s.swc.station = .barred) : s.lampPatterns = (.off, .steady) := by
  simp only [lampPatterns, h]

end State

/-- R158: a blink that the lamp does not show yet starts with its on half. -/
theorem Lamp.take_blink_new {l : Lamp} {rate : BlinkRate} (h : l.pattern ≠ .blink rate) :
    l.take (.blink rate) = .blink rate true := by
  cases l with
  | off => rfl
  | steady => rfl
  | blink rate' lit => exact if_neg fun e => h (congrArg LampPattern.blink e)

/-- R158: a blink at the lamp's own rate goes on in its present half. -/
theorem Lamp.take_blink_same (rate : BlinkRate) (lit : Bool) : (Lamp.blink rate lit).take (.blink rate) = .blink rate lit :=
  if_pos rfl

end Sys2Proof.Machine

namespace Sys2Proof.Proofs
open Sys2Proof.Machine

/-- Settles O51: the conditions of the statement are those of the model's checks, item by item, and the verdict takes them in
order. -/
theorem channelVerdicts : Obligations.ChannelVerdicts := by
  intro p r excused fails untested hexcused hfails huntested
  have he : r.excused = true ↔ excused := Channel.excused_iff.trans hexcused.symm
  have hf : r.fails p = true ↔ fails := by
    rw [hfails, Channel.fails_iff, Channel.staticFails_iff, Channel.classFails_iff, Channel.scanFails_iff, Channel.exists_count_iff,
      Channel.outcomeFails_iff, Channel.outcomeFails_iff]
    simp only [or_assoc]
  have hu : r.untested = true ↔ untested := by
    rw [huntested, Channel.untested_iff, Channel.classUntested_iff, Channel.scanUntested_iff, Channel.exists_count_iff,
      Channel.outcomeUntested_iff, Channel.outcomeUntested_iff]
    simp only [or_assoc]
  rw [← he, ← hf, ← hu]
  exact ⟨Channel.verdict_excused, Channel.verdict_fail, Channel.verdict_untested, Channel.verdict_pass⟩

/-- Settles O52: the slot verdict in its order, the lamp patterns station state by station state, and what a lamp does with the
pattern it takes. -/
theorem slotVerdictsAndLamps : Obligations.SlotVerdictsAndLamps := by
  refine ⟨fun s fail untested hf hu => ?_, fun l p rate =>
    ⟨Lamp.take_pattern l p, Lamp.take_blink_new, Lamp.take_blink_same rate⟩⟩
  have hverdict := fun hb => State.slotVerdict_of_not_barred hb hf hu
  refine ⟨State.slotVerdict_of_barred, fun hb => (hverdict hb).1, fun hb => (hverdict hb).2.1, fun hb => (hverdict hb).2.2,
    State.lampPatterns_reset, fun hs hfor => ?_, fun hs hfor => ?_, ?_, lampPatterns_done, State.lampPatterns_barred⟩
  · rw [State.lampPatterns_listen hs, hfor]
    rfl
  · rw [State.lampPatterns_listen hs, hfor]
    rfl
  · rintro ⟨st, hs | hs⟩
    · exact State.lampPatterns_sweep (.inl (by rw [hs]; rfl))
    · exact State.lampPatterns_sweep (.inr ⟨st, hs⟩)

end Sys2Proof.Proofs
end

section
/-! SUPPORT. Received frames (R168, R169, R176): a whole frame passes the checks exactly if frameBytes lays it out, and the payload
layouts of the six kinds are read back by commandOf. Settles O19. -/
namespace Sys2Proof.Machine

/-! ### Fields of several bytes (R176) -/

theorem bytes16_append (hi lo : Byte) : bytes16 (hi ++ lo) = [hi, lo] := by
  simp only [bytes16, BitVec.extractLsb'_append_eq_left, BitVec.extractLsb'_append_eq_right]

/-- The bytes that bytes16 lays out, joined again. -/
theorem append_bytes16 (x : BitVec 16) : x.extractLsb' 8 8 ++ x.extractLsb' 0 8 = x :=
  (BitVec.extractLsb'_append_extractLsb'_eq_extractLsb' (start₁ := 0) (len₁ := 8) rfl).trans BitVec.extractLsb'_eq_self

/-- The four bytes that recallFieldBytes lays out, joined again from the highest down. -/
theorem append_bytes32 (x : BitVec 32) :
    x.extractLsb' 24 8 ++ x.extractLsb' 16 8 ++ x.extractLsb' 8 8 ++ x.extractLsb' 0 8 = x := by
  have h24 : x.extractLsb' 24 8 ++ x.extractLsb' 16 8 = x.extractLsb' 16 16 :=
    BitVec.extractLsb'_append_extractLsb'_eq_extractLsb' rfl
  have h16 : x.extractLsb' 16 16 ++ x.extractLsb' 8 8 = x.extractLsb' 8 24 :=
    BitVec.extractLsb'_append_extractLsb'_eq_extractLsb' rfl
  have h8 : x.extractLsb' 8 24 ++ x.extractLsb' 0 8 = x.extractLsb' 0 32 :=
    BitVec.extractLsb'_append_extractLsb'_eq_extractLsb' rfl
  rw [h24, h16, h8, BitVec.extractLsb'_eq_self]

/-- A byte above the lowest of a joined field is a byte of what stands above it. -/
theorem extract_append_byte {w : Nat} (hi : BitVec w) (lo : Byte) (start : Nat) :
    (hi ++ lo).extractLsb' (start + 8) 8 = hi.extractLsb' start 8 :=
  BitVec.extractLsb'_append_eq_of_le (Nat.le_add_left 8 start)

/-- R176: the four bytes of a channel set, read and laid out again. -/
theorem recallFieldBytes_append (target mask c3 c2 c1 c0 count summary : Byte) :
    recallFieldBytes ⟨target, mask, c3 ++ c2 ++ c1 ++ c0, count, summary⟩ = [target, mask, c3, c2, c1, c0, count, summary] := by
  have h3 : (c3 ++ c2 ++ c1 ++ c0).extractLsb' 24 8 = c3 :=
    (extract_append_byte _ c0 16).trans ((extract_append_byte _ c1 8).trans BitVec.extractLsb'_append_eq_left)
  have h2 : (c3 ++ c2 ++ c1 ++ c0).extractLsb' 16 8 = c2 :=
    (extract_append_byte _ c0 8).trans ((extract_append_byte _ c1 0).trans BitVec.extractLsb'_append_eq_right)
  have h1 : (c3 ++ c2 ++ c1 ++ c0).extractLsb' 8 8 = c1 :=
    (extract_append_byte _ c0 0).trans BitVec.extractLsb'_append_eq_right
  simp only [recallFieldBytes, h3, h2, h1, BitVec.extractLsb'_append_eq_right]

/-! ### The parts of a received frame -/

/-- SRC, kind and payload of the frame that a received-frame command stands for; none for other commands. -/
def frameParts : Instr → Option (Byte × FrameKind × List Byte)
  | .presentFrame src f => some (src, .present, presentFieldBytes f)
  | .beginFrame src f => some (src, .begin, beginFieldBytes f)
  | .ceaseFrame src tag => some (src, .cease, [tag])
  | .recallFrame src f => some (src, .recall, recallFieldBytes f)
  | .lanerepReceived src payload => some (src, .lanerep, payload)
  | .slotrepReceived src payload => some (src, .slotrep, payload)
  | _ => none

theorem receivedFrame_eq_some_iff {c : Instr} {bytes : List Byte} : receivedFrame c = some bytes ↔
    ∃ src k payload, frameParts c = some (src, k, payload) ∧ frameBytes src k payload = bytes := by
  have h : receivedFrame c = (frameParts c).map fun x => frameBytes x.1 x.2.1 x.2.2 := by cases c <;> rfl
  simp [h]

/-- R168: the operands of a received-frame command are well formed exactly if its SRC and its LEN pass the checks. -/
theorem wellFormed_iff_of_frameParts {c : Instr} {src : Byte} {k : FrameKind} {payload : List Byte}
    (h : frameParts c = some (src, k, payload)) :
    c.wellFormed = true ↔ srcOk src = true ∧ k.lenOk payload.length = true := by
  cases c <;> cases h <;>
    simp [Instr.wellFormed, FrameKind.lenOk, presentFieldBytes, beginFieldBytes, bytes16, recallFieldBytes]

/-! ### The payload layouts are read back (R176) -/

/-- What commandOf reads from a payload is laid out as that payload. -/
theorem frameParts_of_commandOf {c : Instr} {src : Byte} {k : FrameKind} {payload : List Byte}
    (h : commandOf src k payload = some c) : frameParts c = some (src, k, payload) := by
  revert h
  fun_cases commandOf src k payload <;> rintro ⟨⟩
  · rfl
  · simp only [frameParts, beginFieldBytes, bytes16_append, List.cons_append, List.nil_append]
  · rfl
  · simp only [frameParts, recallFieldBytes_append]
  · rfl
  · rfl

/-- Every operand of a command is read back from its layout, where the payload's length is accepted. -/
theorem commandOf_of_frameParts {c : Instr} {src : Byte} {k : FrameKind} {payload : List Byte}
    (h : frameParts c = some (src, k, payload)) (hlen : k.lenOk payload.length = true) : commandOf src k payload = some c := by
  cases c <;> cases h
  case presentFrame | ceaseFrame => rfl
  case beginFrame =>
    simp only [beginFieldBytes, bytes16, List.cons_append, List.nil_append, commandOf, append_bytes16]
  case recallFrame => simp only [recallFieldBytes, commandOf, append_bytes32]
  case lanerepReceived => exact if_pos (beq_iff_eq.1 hlen)
  case slotrepReceived => exact if_pos hlen

/-! ### The checks of a received frame (R168) -/

theorem FrameKind.code_of_ofCode {b : Byte} {k : FrameKind} (h : ofCode b = some k) : k.code = b := by
  simpa using List.find?_some h

/-- R168: no accepted LEN is past one byte. -/
theorem FrameKind.lt_of_lenOk {k : FrameKind} {n : Nat} (h : k.lenOk n = true) : n < 256 := by
  cases k <;> simp only [lenOk, slotrepLenOk, Bool.and_eq_true, decide_eq_true_eq, beq_iff_eq] at h <;> omega

/-- R168: bytes that pass every check are laid out by frameBytes, with a SRC and a LEN that the checks accept. -/
theorem frameBytes_of_acceptFrame {bytes : List Byte} {c : Instr} (h : acceptFrame bytes = some c) :
    ∃ src k payload, srcOk src = true ∧ k.lenOk payload.length = true ∧ frameBytes src k payload = bytes ∧
      commandOf src k payload = some c := by
  revert h
  fun_cases acceptFrame bytes
  case case2 lead src kind len rest hlead k hkind hchecks =>
    intro hcmd
    simp only [Bool.and_eq_true, decide_eq_true_eq, beq_iff_eq] at hlead hchecks
    obtain ⟨hlead, hsrc⟩ := hlead
    obtain ⟨⟨hlen, hrest⟩, hcrc⟩ := hchecks
    have hcount : rest.dropLast.length = len.toNat := by simp [hrest]
    have hframe : rest.dropLast ++ [crc8 (src :: kind :: len :: rest.dropLast)] = rest :=
      List.dropLast_append_getLast? _ hcrc
    refine ⟨src, k, rest.dropLast, hsrc, by rwa [hcount], ?_, hcmd⟩
    simp [frameBytes, FrameKind.code_of_ofCode hkind, hcount, byte, hlead, hframe]
  all_goals rintro ⟨⟩

/-- R168: the checks accept exactly the frames that frameBytes lays out with an accepted SRC and LEN. -/
theorem acceptFrame_eq_some_iff {bytes : List Byte} {c : Instr} : acceptFrame bytes = some c ↔
    ∃ src k payload, srcOk src = true ∧ k.lenOk payload.length = true ∧ frameBytes src k payload = bytes ∧
      commandOf src k payload = some c := by
  refine ⟨frameBytes_of_acceptFrame, ?_⟩
  rintro ⟨src, k, payload, hsrc, hlen, rfl, hcmd⟩
  rw [acceptFrame_frameBytes hsrc hlen (FrameKind.lt_of_lenOk hlen), hcmd]

end Sys2Proof.Machine

namespace Sys2Proof.Proofs
open Sys2Proof.Machine

/-- Settles O19: an accepted frame has the parts of its command, and the parts of a well-formed command are accepted. -/
theorem acceptedFramesRoundTrip : Obligations.AcceptedFramesRoundTrip := by
  intro bytes c
  rw [acceptFrame_eq_some_iff, receivedFrame_eq_some_iff]
  constructor
  · rintro ⟨src, k, payload, hsrc, hlen, hbytes, hcmd⟩
    have hparts := frameParts_of_commandOf hcmd
    exact ⟨(wellFormed_iff_of_frameParts hparts).2 ⟨hsrc, hlen⟩, src, k, payload, hparts, hbytes⟩
  · rintro ⟨hwf, src, k, payload, hparts, hbytes⟩
    obtain ⟨hsrc, hlen⟩ := (wellFormed_iff_of_frameParts hparts).1 hwf
    exact ⟨src, k, payload, hsrc, hlen, hbytes, commandOf_of_frameParts hparts hlen⟩

end Sys2Proof.Proofs
end

section
/-! SUPPORT. The two cases of a step: a command waits at the front of the queue, or none does. Settles O1. -/
namespace Sys2Proof.Machine

/-- The model's choice (notes/assumptions/1.md): a part with no command waiting idles. -/
theorem step_of_pending_nil {s : State} (h : s.pending = []) : step s = .next s := by
  simp only [step, h]

/-- The command at the front has left the queue before it runs. -/
theorem step_of_pending_cons {s : State} {c : Instr} {rest : List Instr} (h : s.pending = c :: rest) :
    step s = exec c { s with pending := rest } := by
  simp only [step, h]

end Sys2Proof.Machine

namespace Sys2Proof.Proofs
open Sys2Proof.Machine

/-- Settles O1: the two conjuncts are the two cases of the queue. -/
theorem stepRunsFrontCommand : Obligations.StepRunsFrontCommand := by
  constructor
  · intro c rest s
    exact step_of_pending_cons (s := { s with pending := c :: rest }) rfl
  · intro s hidle
    exact step_of_pending_nil hidle

end Sys2Proof.Proofs
end
